-- ==== Sys2Proof/Word.lean ====
section
/-! DEFINITION. The words SPIENG moves: command words, bytes, units, ticks and pin levels. -/

namespace Sys2Proof

/-- A command word, the tick counter and `timeout_ticks`: 32 bits (R6, R71). -/
abbrev Word := BitVec 32

/-- One element of TRANSFER's buffer, and one write of the data register (R6, R38). -/
abbrev Byte := BitVec 8

/-- The `unit` operand of SUBMIT and the shift register (R6, R30). -/
abbrev UnitWord := BitVec 16

/-- A level, one bit: `false` is the low level 0, `true` the high level 1 (R7). -/
abbrev Level := Bool

end Sys2Proof
end

