-- ==== Sys2Proof/Config.lean ====
section
/-! DEFINITION. The implementation parameters of R6 that the spec leaves OPEN, and the free values. -/

namespace Sys2Proof

/-- The candidate functions for the clock's leading level (R112, conflict C1). `formula` is the rule and the
default, `gloss` the rejected reading the spec carries as the parameter's second value, `standard` the column
R112 lists for information. -/
inductive LeadRule where
  | formula
  | gloss
  | standard
deriving DecidableEq, Repr, Inhabited

/-- The OPEN parameters of R6. State carries one such record, which no step changes (log 1), so that a
statement about every state holds for every value of every parameter. -/
structure Params where
  /-- `LEAD_RULE` (R112, D1). -/
  leadRule : LeadRule
  /-- `CS_ACTIVE_LEVEL`, the level that asserts chip-select (D2). -/
  csActiveLevel : Level
  /-- `TIMEOUT_INFINITE`, the "infinite" sentinel of `timeout_ticks` (R138, D3). -/
  timeoutInfinite : Word
  /-- `STEP_PERIOD`, ticks between two STEPs; no rule reads it (D28). -/
  stepPeriod : Nat
deriving DecidableEq, Repr, Inhabited

/-- The defaults R6 states. DESIGN CHOICE for `stepPeriod`: R6 says "positive" and gives no default (log 1). -/
def Params.default : Params :=
  { leadRule := .formula, csActiveLevel := false, timeoutInfinite := 0xFFFFFFFF#32, stepPeriod := 1 }

/-- The peripheral's `tx_only` mode after the `n`-th return of a TRANSFER: "any value" (R132, U9, D22). A free
value (log 8): it has no body, so no proof can know it. -/
opaque Config.freeTxOnly : Nat → Bool

/-- The byte XFER_WRITE takes where `length` says that the buffer has one and its bytes have ended: the spec states
no value there. DESIGN CHOICE: a free value (log 15), with no body, numbered by the draw. -/
opaque Config.freeBufferByte : Nat → Byte

end Sys2Proof
end

