-- ==== Sys2Proof/Syntax.lean ====
section
/-! DEFINITION. The operations of SPIENG as data: the 21 rows of spec/opcode_table.json, the fields of the
configuration word (R72), and the operands that travel beside a command word (R71). -/

namespace Sys2Proof

/-- `data_width`, a closed two-valued type (R24, R25). -/
inductive Width where
  | w8
  | w16
deriving DecidableEq, Repr

/-- `W`, the number of bits per unit (R24). -/
def Width.bits : Width → Nat
  | .w8 => 8
  | .w16 => 16

/-- `bit_order`, the order of a unit's bits on the wire (R24, R56). -/
inductive BitOrder where
  | msbFirst
  | lsbFirst
deriving DecidableEq, Repr

/-- The fields of the configuration word CFG (R72). Polarity and phase are two bits wide, so that values
"outside {0,1}" can be written and rejected (C10). -/
structure Cfg where
  cpol : BitVec 2
  cpha : BitVec 2
  width : Width
  order : BitOrder
  dir : BitVec 2
  sckPresent : Bool
  mosiPresent : Bool
  misoPresent : Bool
  csPresent : Bool
deriving DecidableEq, Repr

/-- A pin identifier: an opaque name supplied by the caller of CONFIGURE (R51). The model only ever compares
two of them. -/
abbrev PinId := Nat

/-- The four pin identifiers beside a CONFIGURE word, each meaningful only where its presence bit is 1 (R71). -/
structure PinOperands where
  sck : PinId
  mosi : PinId
  miso : PinId
  cs : PinId
deriving DecidableEq, Repr

/-- TransferRequest (R36), with the peripheral TRANSFER addresses (R61, R130). -/
structure TransferRequest where
  /-- The borrowed buffer; `none` is a null buffer. -/
  buffer : Option (List Byte)
  /-- The number of bytes. -/
  length : Nat
  /-- The timeout in ticks; 0 and `TIMEOUT_INFINITE` disable the deadline (R138). -/
  timeoutTicks : Word
  /-- Which peripheral is addressed; nothing in this block depends on it. -/
  peripheral : Nat
deriving DecidableEq, Repr

/-- A command as it is handed over: the word and the operands that do not fit it (R71). An operation reads only
its own operands. -/
structure Command where
  word : Word
  pins : PinOperands
  request : TransferRequest
deriving DecidableEq, Repr

/-- The formats of the opcode table (R70, R71, R75, R76, R77). CFG (R72) is the operand of a CMD word, not a
format of its own rows. -/
inductive Format where
  | cmd
  | seqv
  | subv
  | xent
  | xloop
deriving DecidableEq, Repr

/-- The width of a format in bits (R70). -/
def Format.bits : Format → Nat
  | .cmd => 32
  | .seqv => 8
  | .subv => 1
  | .xent => 1
  | .xloop => 3

/-- One constructor per row of spec/opcode_table.json (R79). A micro-operation has no operand: its vector's
remaining bits show conditions of the state that its row does not test. -/
inductive Instr where
  | configure (cfg : Cfg)
  | submit (unit : UnitWord)
  | step
  | transfer
  | seqErrEnter
  | seqErrHold
  | seqIdleHold
  | seqIdleStart
  | seqSetupFirst
  | seqSetupNext
  | seqSettle
  | seqCompleteNext
  | seqCompleteLast
  | subWait
  | subLoad
  | xferReject
  | xferBegin
  | xferDone
  | xferWrite
  | xferWait
  | xferTimeout
deriving DecidableEq, Repr

/-- SEQ's nine micro-operations, what a SEQV vector selects (R75). -/
inductive SeqOp where
  | errEnter
  | errHold
  | idleHold
  | idleStart
  | setupFirst
  | setupNext
  | settle
  | completeNext
  | completeLast
deriving DecidableEq, Repr

/-- SUB's two micro-operations (R76). -/
inductive SubOp where
  | wait
  | load
deriving DecidableEq, Repr

/-- XFER's two entry micro-operations (R77). -/
inductive EntryOp where
  | reject
  | begin
deriving DecidableEq, Repr

/-- XFER's four loop micro-operations (R77). -/
inductive LoopOp where
  | done
  | write
  | wait
  | timeout
deriving DecidableEq, Repr

/-- The instruction a SEQ micro-operation is. -/
def SeqOp.toInstr : SeqOp → Instr
  | .errEnter => .seqErrEnter
  | .errHold => .seqErrHold
  | .idleHold => .seqIdleHold
  | .idleStart => .seqIdleStart
  | .setupFirst => .seqSetupFirst
  | .setupNext => .seqSetupNext
  | .settle => .seqSettle
  | .completeNext => .seqCompleteNext
  | .completeLast => .seqCompleteLast

/-- The instruction a SUB micro-operation is. -/
def SubOp.toInstr : SubOp → Instr
  | .wait => .subWait
  | .load => .subLoad

/-- The instruction an XFER entry micro-operation is. -/
def EntryOp.toInstr : EntryOp → Instr
  | .reject => .xferReject
  | .begin => .xferBegin

/-- The instruction an XFER loop micro-operation is. -/
def LoopOp.toInstr : LoopOp → Instr
  | .done => .xferDone
  | .write => .xferWrite
  | .wait => .xferWait
  | .timeout => .xferTimeout

/-- The operations a task issues as a command; STEP is the tick context's (R20, R164). -/
def Instr.fromTask : Instr → Bool
  | .configure _ | .submit _ | .transfer => true
  | .step | .seqErrEnter | .seqErrHold | .seqIdleHold | .seqIdleStart | .seqSetupFirst | .seqSetupNext
  | .seqSettle | .seqCompleteNext | .seqCompleteLast
  | .subWait | .subLoad | .xferReject | .xferBegin | .xferDone | .xferWrite | .xferWait | .xferTimeout => false

end Sys2Proof
end

