-- ==== Sys2Proof/WellFormed.lean ====
section
/-! DEFINITION. The checks on operands: a legal configuration word (R91), pairwise distinct bound pins (R51), a
TransferRequest whose length is that of its buffer (R36). -/

namespace Sys2Proof

/-- Every value an instruction's fields can hold is one its encoding can hold, so every instruction is well
formed as syntax. An illegal polarity or phase is no exception: CONFIGURE must be able to receive it (C10). -/
def Instr.wellFormed : Instr → Bool
  | .configure _ | .submit _ | .transfer | .step
  | .seqErrEnter | .seqErrHold | .seqIdleHold | .seqIdleStart | .seqSetupFirst | .seqSetupNext
  | .seqSettle | .seqCompleteNext | .seqCompleteLast
  | .subWait | .subLoad | .xferReject | .xferBegin | .xferDone | .xferWrite | .xferWait | .xferTimeout => true

/-- CONFIGURE's validation: polarity and phase in {0,1} and the clock pin present (R91). -/
def Cfg.valid (cfg : Cfg) : Bool :=
  cfg.cpol.ule 1#2 && cfg.cpha.ule 1#2 && cfg.sckPresent

/-- The pins a configuration word binds, in the order SCK, MOSI, MISO, CS (R78). -/
def Cfg.boundPins (cfg : Cfg) (pins : PinOperands) : List PinId :=
  [pins.sck] ++ (if cfg.mosiPresent then [pins.mosi] else []) ++
    (if cfg.misoPresent then [pins.miso] else []) ++ (if cfg.csPresent then [pins.cs] else [])

/-- "The bound pins must be pairwise distinct" (R51). -/
def Cfg.pinsDistinct (cfg : Cfg) (pins : PinOperands) : Bool :=
  decide (cfg.boundPins pins).Nodup

/-- `length` is "the number of bytes" of a buffer that is present (R36). No operation is refused for want of it:
TRANSFER runs on every request (log 15), and a well-formed one is what makes every byte it sends the buffer's. -/
def TransferRequest.wellFormed (r : TransferRequest) : Bool :=
  match r.buffer with
  | none => true
  | some bytes => bytes.length == r.length

end Sys2Proof
end

