-- ==== Sys2Proof/Decode.lean ====
section
/-! DEFINITION. The decoders of the five formats (R71, R75, R76, R77), total and rejecting by name (R80), and the
encoder written from the same tables. -/

namespace Sys2Proof

/-- Why a word is no instruction (R80). -/
inductive Reject where
  /-- `CMD` with `op` 0 or 5 to 15. -/
  | reservedOp
  /-- A bit that must be 0 is not: `zero`, STEP's or TRANSFER's `operand`, CONFIGURE's `operand[15:12]`, or a
  bit above a vector's width. -/
  | mustBeZero
  /-- A vector that matches no row: a reserved phase code, or BitComplete with `bit_index + 1 > W`. -/
  | noRow
deriving DecidableEq, Repr

/-- One row of an opcode table: the bits under `mask` must equal `pattern`. -/
structure Row (n : Nat) (α : Type) where
  pattern : BitVec n
  mask : BitVec n
  op : α
deriving DecidableEq, Repr

/-- Whether a vector matches a row. -/
def Row.hits {n : Nat} {α : Type} (r : Row n α) (v : BitVec n) : Bool :=
  v &&& r.mask == r.pattern

/-- The operation of the first row a vector matches. -/
def lookup {n : Nat} {α : Type} : List (Row n α) → BitVec n → Option α
  | [], _ => none
  | r :: rest, v => if r.hits v then some r.op else lookup rest v

/-- The SEQV table (R75); SEQ_ERR_ENTER is tested first. -/
def seqvRows : List (Row 8 SeqOp) :=
  [⟨0x80#8, 0x80#8, .errEnter⟩,
   ⟨0x40#8, 0xF0#8, .errHold⟩,
   ⟨0x00#8, 0xF8#8, .idleHold⟩,
   ⟨0x08#8, 0xF8#8, .idleStart⟩,
   ⟨0x14#8, 0xF4#8, .setupFirst⟩,
   ⟨0x10#8, 0xF4#8, .setupNext⟩,
   ⟨0x20#8, 0xF0#8, .settle⟩,
   ⟨0x30#8, 0xF3#8, .completeNext⟩,
   ⟨0x31#8, 0xF3#8, .completeLast⟩]

/-- The SUBV table (R76). -/
def subvRows : List (Row 1 SubOp) :=
  [⟨1#1, 1#1, .wait⟩, ⟨0#1, 1#1, .load⟩]

/-- The XENT table (R77). -/
def xentRows : List (Row 1 EntryOp) :=
  [⟨1#1, 1#1, .reject⟩, ⟨0#1, 1#1, .begin⟩]

/-- The XLOOP table (R77). -/
def xloopRows : List (Row 3 LoopOp) :=
  [⟨0x4#3, 0x4#3, .done⟩, ⟨0x2#3, 0x6#3, .write⟩, ⟨0x0#3, 0x7#3, .wait⟩, ⟨0x1#3, 0x7#3, .timeout⟩]

/-- What a SEQV vector selects (R75). -/
def decodeSeqv (v : BitVec 8) : Option SeqOp := lookup seqvRows v

/-- What a SUBV vector selects (R76). -/
def decodeSubv (v : BitVec 1) : Option SubOp := lookup subvRows v

/-- What an XENT vector selects (R77). -/
def decodeXent (v : BitVec 1) : Option EntryOp := lookup xentRows v

/-- What an XLOOP vector selects (R77). -/
def decodeXloop (v : BitVec 3) : Option LoopOp := lookup xloopRows v

/-- The fields of a configuration word (R72). -/
def decodeCfg (c : BitVec 12) : Cfg :=
  { cpol := c.extractLsb' 0 2
    cpha := c.extractLsb' 2 2
    width := if c.getLsbD 4 then .w16 else .w8
    order := if c.getLsbD 5 then .lsbFirst else .msbFirst
    dir := c.extractLsb' 6 2
    sckPresent := c.getLsbD 8
    mosiPresent := c.getLsbD 9
    misoPresent := c.getLsbD 10
    csPresent := c.getLsbD 11 }

/-- The configuration word of its fields (R72). -/
def encodeCfg (cfg : Cfg) : BitVec 12 :=
  BitVec.ofBool cfg.csPresent ++ BitVec.ofBool cfg.misoPresent ++ BitVec.ofBool cfg.mosiPresent ++
    BitVec.ofBool cfg.sckPresent ++ cfg.dir ++ BitVec.ofBool (decide (cfg.order = .lsbFirst)) ++
    BitVec.ofBool (decide (cfg.width = .w16)) ++ cfg.cpha ++ cfg.cpol

/-- The decoder of command words (R71): the operation code, then the bits that must be 0, then the operand. -/
def decodeCmd (w : Word) : Except Reject Instr :=
  let op := w.extractLsb' 28 4
  let zero := w.extractLsb' 16 12
  let operand := w.extractLsb' 0 16
  if op = 1#4 then
    if zero = 0#12 ∧ operand.extractLsb' 12 4 = 0#4 then .ok (.configure (decodeCfg (operand.extractLsb' 0 12)))
    else .error .mustBeZero
  else if op = 2#4 then
    if zero = 0#12 then .ok (.submit operand) else .error .mustBeZero
  else if op = 3#4 then
    if zero = 0#12 ∧ operand = 0#16 then .ok .step else .error .mustBeZero
  else if op = 4#4 then
    if zero = 0#12 ∧ operand = 0#16 then .ok .transfer else .error .mustBeZero
  else .error .reservedOp

/-- A vector's answer as an instruction, rejected by name where no row matches. -/
def vectorAnswer : Option Instr → Except Reject Instr
  | some i => .ok i
  | none => .error .noRow

/-- The decoder of a word of a given format. Bits above the format's width must be 0. -/
def decode (f : Format) (w : Word) : Except Reject Instr :=
  if 2 ^ f.bits ≤ w.toNat then .error .mustBeZero
  else match f with
    | .cmd => decodeCmd w
    | .seqv => vectorAnswer ((decodeSeqv (w.setWidth 8)).map SeqOp.toInstr)
    | .subv => vectorAnswer ((decodeSubv (w.setWidth 1)).map SubOp.toInstr)
    | .xent => vectorAnswer ((decodeXent (w.setWidth 1)).map EntryOp.toInstr)
    | .xloop => vectorAnswer ((decodeXloop (w.setWidth 3)).map LoopOp.toInstr)

/-- The format an instruction's row has in the opcode table. -/
def Instr.format : Instr → Format
  | .configure _ | .submit _ | .step | .transfer => .cmd
  | .seqErrEnter | .seqErrHold | .seqIdleHold | .seqIdleStart | .seqSetupFirst | .seqSetupNext
  | .seqSettle | .seqCompleteNext | .seqCompleteLast => .seqv
  | .subWait | .subLoad => .subv
  | .xferReject | .xferBegin => .xent
  | .xferDone | .xferWrite | .xferWait | .xferTimeout => .xloop

/-- The word of an instruction in its format (R71, R75, R76, R77). A micro-operation's word has 0 in the bits
its row does not test. -/
def encode : Instr → Word
  | .configure cfg => 0x10000#20 ++ encodeCfg cfg
  | .submit unit => 0x2000#16 ++ unit
  | .step => 0x30000000#32
  | .transfer => 0x40000000#32
  | .seqErrEnter => 0x80#32
  | .seqErrHold => 0x40#32
  | .seqIdleHold => 0x00#32
  | .seqIdleStart => 0x08#32
  | .seqSetupFirst => 0x14#32
  | .seqSetupNext => 0x10#32
  | .seqSettle => 0x20#32
  | .seqCompleteNext => 0x30#32
  | .seqCompleteLast => 0x31#32
  | .subWait => 0x1#32
  | .subLoad => 0x0#32
  | .xferReject => 0x1#32
  | .xferBegin => 0x0#32
  | .xferDone => 0x4#32
  | .xferWrite => 0x2#32
  | .xferWait => 0x0#32
  | .xferTimeout => 0x1#32

/-- The format `decodeTableWord` reads a word of `nbits` bits in. A row of one to eight bits has eight bits in
whole bytes; only SEQV has eight of its own, so eight bits are SEQV (log 10). -/
def formatOfBits : Nat → Option Format
  | 32 => some .cmd
  | 8 => some .seqv
  | 3 => some .xloop
  | 1 => some .subv
  | _ => none

/-- The instruction this decoder reads from a table word of `nbits` bits. -/
def decodeTableWord (nbits w : Nat) : Option Instr :=
  match formatOfBits nbits with
  | none => none
  | some f =>
    match decode f (BitVec.ofNat 32 w) with
    | .ok i => some i
    | .error _ => none

end Sys2Proof
end

