-- ==== Sys2Proof/Machine/State.lean ====
section
/-! DEFINITION. The state of SPIENG (10_state.md), its state before the first CONFIGURE (R170), and the reasons a
step can stop. -/

namespace Sys2Proof.Machine

open Sys2Proof

/-- `phase`, the sequencer's control state (R28). -/
inductive Phase where
  | idle
  | setupBit
  | clockSettle
  | bitComplete
  | error
deriving DecidableEq, Repr

/-- SpiConfig (R24). The clock pin is mandatory; the others are present or absent (R26). -/
structure SpiConfig where
  cpol : Level
  cpha : Level
  width : Width
  order : BitOrder
  dir : BitVec 2
  sckPin : PinId
  mosiPin : Option PinId
  misoPin : Option PinId
  csPin : Option PinId
deriving DecidableEq, Repr

/-- The output pins, those with a level in the pin space (R34). -/
inductive OutPin where
  | sck
  | mosi
  | cs
deriving DecidableEq, Repr

/-- The pin space (R34): the level of each output pin the engine owns; `none` is a pin that has no level there
(absent, R26, or not owned yet, R170). -/
structure PinSpace where
  sck : Option Level
  mosi : Option Level
  cs : Option Level
deriving DecidableEq, Repr

/-- A pin direction, as the GPIO collaborator is told it (R160). -/
inductive Direction where
  | output
  | input
deriving DecidableEq, Repr

/-- The direction CONFIGURE gave each pin it bound (R92 step 2); `none` where it bound none. -/
structure PinDirections where
  sck : Option Direction
  mosi : Option Direction
  miso : Option Direction
  cs : Option Direction
deriving DecidableEq, Repr

/-- One event of `pin_trace`: the pin written, by role and by identifier, and its level (R41, R53). -/
structure PinEvent where
  role : OutPin
  pin : PinId
  level : Level
deriving DecidableEq, Repr

/-- The result codes (R74). CONFIGURE and TRANSFER return the first four; `unsupported` is what ERR = 1 means. -/
inductive ResultCode where
  | ok
  | invalidConfiguration
  | invalidArgument
  | timeout
  | unsupported
deriving DecidableEq, Repr

/-- The operations that return a result (R74). -/
inductive Returning where
  | configure
  | transfer
deriving DecidableEq, Repr

/-- A result as its caller receives it. -/
structure OpResult where
  operation : Returning
  code : ResultCode
deriving DecidableEq, Repr

/-- What the environment does next (R20; log 6): a command is handed over, the task context has its turn, the
ready flag takes a value (R162), the tick counter takes a value (R161). -/
inductive Input where
  | command (c : Command)
  | taskTurn
  | txe (flag : Bool)
  | now (tick : Word)
deriving DecidableEq, Repr

/-- The state of SPIENG and of its environment as this block sees it. -/
structure State where
  /-- The OPEN parameters of R6; no step changes them (log 1). -/
  params : Params
  /-- `configured` (R21). -/
  configured : Bool
  /-- SpiConfig (R24). -/
  config : SpiConfig
  /-- `phase` (R28). -/
  phase : Phase
  /-- `bit_index` (R29). -/
  bitIndex : BitVec 4
  /-- `shift_register` (R30). -/
  shiftRegister : UnitWord
  /-- `data_ready` (R31). -/
  dataReady : Bool
  /-- The pin space (R34). -/
  pins : PinSpace
  /-- The directions given to the bound pins (R92). -/
  directions : PinDirections
  /-- `pin_trace`, oldest event first (R41). -/
  pinTrace : List PinEvent
  /-- `dr_trace`, oldest byte first (R41). -/
  drTrace : List Byte
  /-- The operand of the SUBMIT in progress, if one is (R40). -/
  submitUnit : Option UnitWord
  /-- The pin identifiers beside the last CONFIGURE word (R71). -/
  pinOperands : PinOperands
  /-- TransferRequest, the operands of TRANSFER (R36). -/
  request : TransferRequest
  /-- `start_tick` (R37). -/
  startTick : Word
  /-- `cursor` (R37). -/
  cursor : Nat
  /-- `remaining` (R37). -/
  remaining : Nat
  /-- `xfer_active` (R37). -/
  xferActive : Bool
  /-- The peripheral's transmit-ready flag (R38). -/
  txe : Bool
  /-- The peripheral's data register (R38). -/
  dataRegister : Byte
  /-- The peripheral's mode setting `tx_only` (R38). -/
  txOnly : Bool
  /-- The tick counter (R39). -/
  now : Word
  /-- The results handed to callers, oldest first: the model's observation (R41, R44; log 9). -/
  results : List OpResult
  /-- The number of free values taken: the model's own (log 8). -/
  freeCount : Nat
  /-- What the environment does next: the model's own (log 6). -/
  inputs : List Input
deriving DecidableEq, Repr

/-- Why the machine stops with a fault. -/
inductive Fault where
  /-- `BufRead(i)` with `i` not below `length`, or with no buffer (R52). Raised by XFER_WRITE; safe: R52 says it
  never occurs, and it cannot in a state that meets `Inv`. -/
  | bufferOutOfRange
deriving DecidableEq, Repr

/-- Why the model gives a situation no meaning. Each is safe: the model stops where the spec says "refuse" or
has no such step. -/
inductive Refusal where
  /-- An instruction with no meaning yet. Raised only by arms of `exec`; safe. -/
  | notModelled (mnemonic : String)
  /-- A command word that is no command (R80, U15). Raised by `step`; safe. -/
  | badEncoding (reason : Reject)
  /-- A vector that matches no row (R80, U15). Raised by STEP; safe. -/
  | noMicroOperation
  /-- SUBMIT, STEP or one of their micro-operations with no handle (R21, U14, D21). Raised by these; safe. -/
  | notConfigured
  /-- CONFIGURE while a unit or a SUBMIT is in flight (R94, U13, D20). Raised by CONFIGURE; safe. -/
  | configureInFlight
  /-- Two roles bound to one pin (R51, U20, D26). Raised by CONFIGURE; safe. -/
  | pinsNotDistinct
  /-- A second caller inside SUBMIT (R40, U2). Raised by SUBMIT; safe. -/
  | submitInProgress
  /-- A TRANSFER entered while one is in progress: XFER has one set of registers and its task does not yield
  (R37, R130). Raised by TRANSFER and its entry micro-operations; safe, and `step` never raises it (log 7). -/
  | transferInProgress
  /-- A micro-operation that its agent's vector does not select (R75, R76, R77). Raised by micro-operations;
  safe, and neither STEP nor `step` raises it (log 14). -/
  | notSelected
deriving DecidableEq, Repr

/-- How an operation ends. -/
abbrev Answer := Host.Outcome State Fault Refusal

/-- The pin space before any CONFIGURE: no pin is owned (R34, R170). -/
def PinSpace.empty : PinSpace := { sck := none, mosi := none, cs := none }

/-- The machine before the first CONFIGURE (R170), with nothing handed over. `configured`, the traces and
`xfer_active` are the spec's. The fields that exist only after CONFIGURE (log 3), during a call (log 5) or in
the environment (log 4) hold the values those entries name; the parameters hold R6's defaults (log 1). -/
def State.reset : State :=
  { params := Params.default
    configured := false
    config :=
      { cpol := false, cpha := false, width := .w8, order := .msbFirst, dir := 0#2, sckPin := 0,
        mosiPin := none, misoPin := none, csPin := none }
    phase := .idle
    bitIndex := 0#4
    shiftRegister := 0#16
    dataReady := false
    pins := PinSpace.empty
    directions := { sck := none, mosi := none, miso := none, cs := none }
    pinTrace := []
    drTrace := []
    submitUnit := none
    pinOperands := { sck := 0, mosi := 1, miso := 2, cs := 3 }
    request := { buffer := none, length := 0, timeoutTicks := 0#32, peripheral := 0 }
    startTick := 0#32
    cursor := 0
    remaining := 0
    xferActive := false
    txe := false
    dataRegister := 0#8
    txOnly := false
    now := 0#32
    results := []
    freeCount := 0
    inputs := [] }

end Sys2Proof.Machine
end

