-- ==== Sys2Proof/Machine/Operands.lean ====
section
/-! DEFINITION. What the operations compute from their operands: SpiConfig from a configuration word (R78), the
bit-order multiplexer (R101, R104), the clock-phase multiplexer (R112, R113), the buffer read (R52) and the
deadline (R138, R139). -/

namespace Sys2Proof.Machine

open Sys2Proof

/-- SpiConfig from a configuration word and the identifiers beside it (R78). -/
def spiConfigOf (cfg : Cfg) (pins : PinOperands) : SpiConfig :=
  { cpol := cfg.cpol.getLsbD 0
    cpha := cfg.cpha.getLsbD 0
    width := cfg.width
    order := cfg.order
    dir := cfg.dir
    sckPin := pins.sck
    mosiPin := if cfg.mosiPresent then some pins.mosi else none
    misoPin := if cfg.misoPresent then some pins.miso else none
    csPin := if cfg.csPresent then some pins.cs else none }

/-- The pin an output role is bound to, `none` where it is absent: `present` of R8 is that it is `some`. -/
def SpiConfig.pinOf (c : SpiConfig) : OutPin → Option PinId
  | .sck => some c.sckPin
  | .mosi => c.mosiPin
  | .cs => c.csPin

/-- The directions a configuration gives its pins (R92 step 2). -/
def directionsOf (c : SpiConfig) : PinDirections :=
  { sck := some .output
    mosi := c.mosiPin.map fun _ => .output
    miso := c.misoPin.map fun _ => .input
    cs := c.csPin.map fun _ => .output }

/-- `dir` is transmit-only (R24, D5). -/
def SpiConfig.transmitOnly (c : SpiConfig) : Bool := c.dir == 0#2

/-- The low `W` bits of a value, zero above (R104). -/
def lowBits (w : Width) (v : UnitWord) : UnitWord :=
  match w with
  | .w8 => (v.setWidth 8).setWidth 16
  | .w16 => v

/-- `reverse_bits(v, w)` (R101): the low `w` bits in reverse order, zero above. -/
def reverseBits (v : UnitWord) (w : Width) : UnitWord :=
  match w with
  | .w8 => (v.setWidth 8).reverse.setWidth 16
  | .w16 => v.reverse

/-- `wire_value(unit)`, the bit-order multiplexer (R104). -/
def wireValue (c : SpiConfig) (unit : UnitWord) : UnitWord :=
  match c.order with
  | .msbFirst => reverseBits unit c.width
  | .lsbFirst => lowBits c.width unit

/-- `lead_level(cpol, cpha)`, the level of SCK in SetupBit, for each value of `LEAD_RULE` (R112). -/
def leadLevel (p : Params) (cpol cpha : Level) : Level :=
  match p.leadRule with
  | .formula => cpol ^^ (cpol ^^ cpha)
  | .gloss => cpol ^^ !(cpol ^^ cpha)
  | .standard => cpol ^^ cpha

/-- `trail_level(cpol, cpha)`, the level of SCK in ClockSettle (R113). -/
def trailLevel (p : Params) (cpol cpha : Level) : Level := !(leadLevel p cpol cpha)

/-- Whether the borrowed buffer has a byte `i`. -/
def bufHolds (r : TransferRequest) (i : Nat) : Bool :=
  match r.buffer with
  | none => false
  | some bytes => decide (i < bytes.length)

/-- `BufRead(i)` for `0 <= i < length` (R52): byte `i` of the borrowed buffer, and the given free value where
`length` is above the number of the buffer's bytes and they have ended (log 15). `none` outside R52's range. -/
def bufRead (r : TransferRequest) (free : Byte) (i : Nat) : Option Byte :=
  match r.buffer with
  | none => none
  | some bytes => if i < r.length then some (bytes[i]?.getD free) else none

/-- Whether a deadline applies: `timeout_ticks` is neither sentinel (R138). -/
def deadlineApplies (p : Params) (r : TransferRequest) : Bool :=
  r.timeoutTicks != 0#32 && r.timeoutTicks != p.timeoutInfinite

/-- `elapsed`, modulo 2^32 (R139). -/
def elapsed (s : State) : Word := s.now - s.startTick

/-- The deadline applies and has passed, compared unsigned (R136, R139). -/
def deadlinePassed (s : State) : Bool :=
  deadlineApplies s.params s.request && s.request.timeoutTicks.ule (elapsed s)

end Sys2Proof.Machine
end

