-- ==== Sys2Proof/Machine/Flags.lean ====
section
/-! DEFINITION. The status outputs (R35) and the decode vectors each agent forms from the state (R75 to R77). -/

namespace Sys2Proof.Machine

open Sys2Proof

/-- `BUSY = data_ready` (R35). -/
def State.busy (s : State) : Bool := s.dataReady

/-- `ERR = (phase == Error)` (R35), the one way Unsupported is surfaced (R154). -/
def State.err (s : State) : Bool := decide (s.phase = .error)

/-- The code of `phase` (R73). -/
def Phase.code : Phase → BitVec 3
  | .idle => 0#3
  | .setupBit => 1#3
  | .clockSettle => 2#3
  | .bitComplete => 3#3
  | .error => 4#3

/-- The code of a result (R74). -/
def ResultCode.code : ResultCode → BitVec 3
  | .ok => 0#3
  | .invalidConfiguration => 1#3
  | .invalidArgument => 2#3
  | .timeout => 3#3
  | .unsupported => 4#3

/-- The `cc` field of SEQV: `bit_index + 1` against `W` (R75). -/
def compareField (s : State) : BitVec 2 :=
  if s.bitIndex.toNat + 1 < s.config.width.bits then 0#2
  else if s.bitIndex.toNat + 1 = s.config.width.bits then 1#2
  else 2#2

/-- The vector SEQ forms at the start of a STEP (R75). -/
def seqv (s : State) : BitVec 8 :=
  BitVec.ofBool (!s.config.transmitOnly) ++ s.phase.code ++ BitVec.ofBool s.dataReady ++
    BitVec.ofBool (s.bitIndex == 0#4) ++ compareField s

/-- The vector SUB forms at each test of the flag (R76). -/
def subv (s : State) : BitVec 1 := BitVec.ofBool s.dataReady

/-- The vector XFER forms at call entry: buffer absent or `length == 0` (R77). -/
def xent (s : State) : BitVec 1 := BitVec.ofBool (s.request.buffer.isNone || s.request.length == 0)

/-- The vector XFER forms at each loop iteration (R77). `txe()` is read only when `remaining > 0`, `now()` only
when the flag was also clear; a bit that is not formed is 0 here, and no row tests it (log 17). -/
def xloop (s : State) : BitVec 3 :=
  if s.remaining = 0 then 0x4#3
  else if s.txe then 0x2#3
  else BitVec.ofBool false ++ BitVec.ofBool false ++ BitVec.ofBool (deadlinePassed s)

end Sys2Proof.Machine
end

