-- ==== Sys2Proof/Machine/Ops.lean ====
section
/-! DEFINITION. The shared operations on the state: pin and data-register writes (R53, R54), returning a result
and entering Error (the two ways an error is raised, R8, R157), ending a TRANSFER, and the guards under which an
agent runs a micro-operation. There is no return from an error to model: only CONFIGURE leaves Error (R158). -/

namespace Sys2Proof.Machine

open Sys2Proof

/-- The pin space with one pin's level set. -/
def PinSpace.set (p : PinSpace) (r : OutPin) (l : Level) : PinSpace :=
  match r with
  | .sck => { p with sck := some l }
  | .mosi => { p with mosi := some l }
  | .cs => { p with cs := some l }

/-- `PinWrite(pin, level)` (R53), guarded by `present` as every rule that writes an optional pin is: an absent
pin is not written. -/
def pinWrite (r : OutPin) (l : Level) (s : State) : State :=
  match s.config.pinOf r with
  | none => s
  | some p =>
    { s with
      pins := s.pins.set r l
      pinTrace := s.pinTrace ++ [{ role := r, pin := p, level := l }] }

/-- `DrWrite(byte)` (R54). -/
def drWrite (b : Byte) (s : State) : State :=
  { s with dataRegister := b, drTrace := s.drTrace ++ [b] }

/-- The level that deasserts chip-select (R92, R120). -/
def csInactive (s : State) : Level := !s.params.csActiveLevel

/-- An operation ends and hands a result to its caller: `return Ok`, or for an error kind "`return Err(<kind>)`"
(R8, R150, R155). Nothing is saved and no handler runs (R157). -/
def returnResult (op : Returning) (code : ResultCode) (s : State) : State :=
  { s with results := s.results ++ [{ operation := op, code := code }] }

/-- Unsupported is raised: `phase <- Error`, and nothing else changes (R121, R157). -/
def enterError (s : State) : State := { s with phase := .error }

/-- TRANSFER ends with a result: `xfer_active <- 0` (R136, R137), and `tx_only` is any value from now on (R132,
U9), a free value (log 8). DESIGN CHOICE: `start_tick`, `cursor`, `remaining` and the request, which have no value
outside a call (R37, R43), keep their last values (log 24). -/
def endTransfer (code : ResultCode) (s : State) : State :=
  returnResult .transfer code
    { s with
      xferActive := false
      txOnly := Config.freeTxOnly s.freeCount
      freeCount := s.freeCount + 1 }

/-- SetupBit's data and clock part (R116, R117): the next bit leaves the low end of the shift register for MOSI,
then SCK takes its leading level. The shift happens whether or not MOSI is present. -/
def shiftOut (s : State) : State :=
  let bit := s.shiftRegister.getLsbD 0
  let lead := leadLevel s.params s.config.cpol s.config.cpha
  let driven := pinWrite .sck lead (pinWrite .mosi bit { s with shiftRegister := s.shiftRegister >>> 1 })
  { driven with phase := .clockSettle }

/-- A second CONFIGURE is admitted: nothing is in flight (R94). Before the first one it always is (R90). -/
def configureAdmitted (s : State) : Bool :=
  !s.configured ||
    (s.submitUnit.isNone && (decide (s.phase = .idle) && !s.dataReady || decide (s.phase = .error)))

/-- A SEQ micro-operation runs when the engine is configured and SEQV selects it (R21, R75, R111). -/
def seqMicro (op : SeqOp) (s : State) (t : State) : Answer :=
  if !s.configured then .refused .notConfigured
  else if decodeSeqv (seqv s) = some op then .next t
  else .refused .notSelected

/-- An XFER loop micro-operation runs when a TRANSFER is in progress and XLOOP selects it (R77, R133). -/
def loopMicro (op : LoopOp) (s : State) (t : Answer) : Answer :=
  if s.xferActive && decide (decodeXloop (xloop s) = some op) then t
  else .refused .notSelected

end Sys2Proof.Machine
end

