-- ==== Sys2Proof/Machine/Configure.lean ====
section
/-! DEFINITION. CONFIGURE (40_configure.md). -/

namespace Sys2Proof.Machine

open Sys2Proof

/-- A successful CONFIGURE (R92), in its order: SpiConfig, the pins' directions, SCK at idle, chip-select
deasserted, data-out low, EngineState at its reset values (R43), `configured`. The pin space holds the new pins
only: the old ones are no longer owned (R94). -/
def configureEngine (cfg : Cfg) (s : State) : State :=
  let c := spiConfigOf cfg s.pinOperands
  let bound := { s with config := c, directions := directionsOf c, pins := PinSpace.empty }
  let driven := pinWrite .mosi false (pinWrite .cs (csInactive s) (pinWrite .sck c.cpol bound))
  { driven with
    phase := .idle, bitIndex := 0#4, shiftRegister := 0#16, dataReady := false, configured := true }

/-- CONFIGURE (R90 to R94). Validation precedes everything (R91); then a unit in flight (R94) and a pin bound
twice (R51) are refused (log 13). -/
def execConfigure (cfg : Cfg) (s : State) : Answer :=
  if !cfg.valid then .next (returnResult .configure .invalidConfiguration s)
  else if !configureAdmitted s then .refused .configureInFlight
  else if !cfg.pinsDistinct s.pinOperands then .refused .pinsNotDistinct
  else .next (returnResult .configure .ok (configureEngine cfg s))

end Sys2Proof.Machine
end

