-- ==== Sys2Proof/Machine/Sequencer.lean ====
section
/-! DEFINITION. STEP and SEQ's nine micro-operations (42_step_fsm.md). -/

namespace Sys2Proof.Machine

open Sys2Proof

/-- SEQ_ERR_ENTER (R121): Unsupported is raised. -/
def execSeqErrEnter (s : State) : Answer := seqMicro .errEnter s (enterError s)

/-- SEQ_ERR_HOLD (R122): Error is terminal; nothing else is written. -/
def execSeqErrHold (s : State) : Answer := seqMicro .errHold s { s with phase := .error }

/-- SEQ_IDLE_HOLD (R114): SCK is driven to its idle level. -/
def execSeqIdleHold (s : State) : Answer :=
  seqMicro .idleHold s { pinWrite .sck s.config.cpol s with phase := .idle }

/-- SEQ_IDLE_START (R115): no pin is written. -/
def execSeqIdleStart (s : State) : Answer :=
  seqMicro .idleStart s { s with bitIndex := 0#4, phase := .setupBit }

/-- SEQ_SETUP_FIRST (R116): chip-select is asserted, then SetupBit proper. -/
def execSeqSetupFirst (s : State) : Answer :=
  seqMicro .setupFirst s (shiftOut (pinWrite .cs s.params.csActiveLevel s))

/-- SEQ_SETUP_NEXT (R117): SetupBit without the chip-select write. -/
def execSeqSetupNext (s : State) : Answer := seqMicro .setupNext s (shiftOut s)

/-- SEQ_SETTLE (R118): SCK takes its trailing level. -/
def execSeqSettle (s : State) : Answer :=
  seqMicro .settle s
    { pinWrite .sck (trailLevel s.params s.config.cpol s.config.cpha) s with phase := .bitComplete }

/-- SEQ_COMPLETE_NEXT (R119): the next bit. -/
def execSeqCompleteNext (s : State) : Answer :=
  seqMicro .completeNext s { s with bitIndex := s.bitIndex + 1#4, phase := .setupBit }

/-- SEQ_COMPLETE_LAST (R120): chip-select is deasserted, then `data_ready` cleared; `bit_index` keeps its value. -/
def execSeqCompleteLast (s : State) : Answer :=
  seqMicro .completeLast s { pinWrite .cs (csInactive s) s with dataReady := false, phase := .idle }

/-- STEP (R110, R111): exactly the one micro-operation SEQV selects; a vector of no row is refused (R80). -/
def execStep (s : State) : Answer :=
  if !s.configured then .refused .notConfigured
  else
    match decodeSeqv (seqv s) with
    | none => .refused .noMicroOperation
    | some .errEnter => execSeqErrEnter s
    | some .errHold => execSeqErrHold s
    | some .idleHold => execSeqIdleHold s
    | some .idleStart => execSeqIdleStart s
    | some .setupFirst => execSeqSetupFirst s
    | some .setupNext => execSeqSetupNext s
    | some .settle => execSeqSettle s
    | some .completeNext => execSeqCompleteNext s
    | some .completeLast => execSeqCompleteLast s

end Sys2Proof.Machine
end

