-- ==== Sys2Proof/Machine/Submit.lean ====
section
/-! DEFINITION. SUBMIT and SUB's two micro-operations (41_submit.md). -/

namespace Sys2Proof.Machine

open Sys2Proof

/-- A SUB micro-operation runs when the engine is configured, a SUBMIT is in progress and SUBV selects it (R21,
R40, R76); it is given the SUBMIT's operand. -/
def subMicro (op : SubOp) (s : State) (act : UnitWord → State) : Answer :=
  if !s.configured then .refused .notConfigured
  else
    match s.submitUnit with
    | none => .refused .notSelected
    | some unit => if decodeSubv (subv s) = some op then .next (act unit) else .refused .notSelected

/-- SUB_WAIT (R102): the task yields; nothing is written, and the SUBMIT stays in progress. -/
def execSubWait (s : State) : Answer := subMicro .wait s fun _ => s

/-- SUB_LOAD (R103): the three writes, as one atomic action (log 16), and SUBMIT returns. -/
def execSubLoad (s : State) : Answer :=
  subMicro .load s fun unit =>
    { s with
      shiftRegister := wireValue s.config unit
      bitIndex := 0#4
      dataReady := true
      submitUnit := none }

/-- SUBMIT (R100): the call begins and makes its first test of `data_ready` (log 16). A second caller while a
SUBMIT is in progress is refused (R40, U2). -/
def execSubmit (unit : UnitWord) (s : State) : Answer :=
  if !s.configured then .refused .notConfigured
  else if s.submitUnit.isSome then .refused .submitInProgress
  else
    let begun := { s with submitUnit := some unit }
    match decodeSubv (subv begun) with
    | some .wait => execSubWait begun
    | some .load => execSubLoad begun
    | none => .refused .noMicroOperation

end Sys2Proof.Machine
end

