-- ==== Sys2Proof/Machine/Transfer.lean ====
section
/-! DEFINITION. TRANSFER and XFER's six micro-operations (43_hw_transfer.md). -/

namespace Sys2Proof.Machine

open Sys2Proof

/-- XFER_REJECT (R131): the result and nothing else. -/
def execXferReject (s : State) : Answer :=
  if s.xferActive then .refused .transferInProgress
  else if decodeXent (xent s) = some .reject then .next (returnResult .transfer .invalidArgument s)
  else .refused .notSelected

/-- XFER_BEGIN (R132): the mode, the entry tick, the working registers. `remaining` is the `length` given, whatever
the number of the buffer's bytes (log 15). -/
def execXferBegin (s : State) : Answer :=
  if s.xferActive then .refused .transferInProgress
  else if decodeXent (xent s) = some .begin then
    .next
      { s with
        txOnly := true
        startTick := s.now
        cursor := 0
        remaining := s.request.length
        xferActive := true }
  else .refused .notSelected

/-- TRANSFER (R130): the entry micro-operation XENT selects. The loop that follows is run one iteration at a
time, in the task context's turns (R133). -/
def execTransfer (s : State) : Answer :=
  if s.xferActive then .refused .transferInProgress
  else
    match decodeXent (xent s) with
    | some .reject => execXferReject s
    | some .begin => execXferBegin s
    | none => .refused .noMicroOperation

/-- XFER_WRITE (R134): one byte is handed to the data register. Past the buffer's bytes it is a free value, whose
draw is counted (log 15). -/
def execXferWrite (s : State) : Answer :=
  loopMicro .write s <|
    match bufRead s.request (Config.freeBufferByte s.freeCount) s.cursor with
    | none => .fault .bufferOutOfRange
    | some b =>
      .next
        { drWrite b s with
          cursor := s.cursor + 1
          remaining := s.remaining - 1
          freeCount := if bufHolds s.request s.cursor then s.freeCount else s.freeCount + 1 }

/-- XFER_WAIT (R135): nothing; the loop polls again. -/
def execXferWait (s : State) : Answer := loopMicro .wait s (.next s)

/-- XFER_TIMEOUT (R136): the remaining bytes stay unsent, those written stay written. -/
def execXferTimeout (s : State) : Answer := loopMicro .timeout s (.next (endTransfer .timeout s))

/-- XFER_DONE (R137): every byte has been handed off. -/
def execXferDone (s : State) : Answer := loopMicro .done s (.next (endTransfer .ok s))

end Sys2Proof.Machine
end

