-- ==== Sys2Proof/Machine/Dispatch.lean ====
section
/-! DEFINITION. One arm per constructor of Instr, each one call of its meaning. -/

namespace Sys2Proof.Machine

open Sys2Proof

def exec (i : Instr) (s : State) : Host.Outcome State Fault Refusal :=
  match i with
  | .configure cfg => Sys2Proof.Machine.execConfigure cfg s
  | .submit unit => Sys2Proof.Machine.execSubmit unit s
  | .step => Sys2Proof.Machine.execStep s
  | .transfer => Sys2Proof.Machine.execTransfer s
  | .seqErrEnter => Sys2Proof.Machine.execSeqErrEnter s
  | .seqErrHold => Sys2Proof.Machine.execSeqErrHold s
  | .seqIdleHold => Sys2Proof.Machine.execSeqIdleHold s
  | .seqIdleStart => Sys2Proof.Machine.execSeqIdleStart s
  | .seqSetupFirst => Sys2Proof.Machine.execSeqSetupFirst s
  | .seqSetupNext => Sys2Proof.Machine.execSeqSetupNext s
  | .seqSettle => Sys2Proof.Machine.execSeqSettle s
  | .seqCompleteNext => Sys2Proof.Machine.execSeqCompleteNext s
  | .seqCompleteLast => Sys2Proof.Machine.execSeqCompleteLast s
  | .subWait => Sys2Proof.Machine.execSubWait s
  | .subLoad => Sys2Proof.Machine.execSubLoad s
  | .xferReject => Sys2Proof.Machine.execXferReject s
  | .xferBegin => Sys2Proof.Machine.execXferBegin s
  | .xferDone => Sys2Proof.Machine.execXferDone s
  | .xferWrite => Sys2Proof.Machine.execXferWrite s
  | .xferWait => Sys2Proof.Machine.execXferWait s
  | .xferTimeout => Sys2Proof.Machine.execXferTimeout s

end Sys2Proof.Machine
end

