-- ==== Sys2Proof/Machine/Fetch.lean ====
section
/-! DEFINITION. Which agent moves next and what it runs (R20, R62; log 6, log 7), and how the host places a word
where the next step takes its instruction (log 10). -/

namespace Sys2Proof.Machine

open Sys2Proof

/-- A command's operands reach their operation's registers: the pin identifiers CONFIGURE's, the request
TRANSFER's (R71). No other operation touches them: the request is constant during a TRANSFER (R36). -/
def stage (i : Instr) (c : Command) (s : State) : State :=
  match i with
  | .configure _ => { s with pinOperands := c.pins }
  | .transfer => { s with request := c.request }
  | .submit _ | .step
  | .seqErrEnter | .seqErrHold | .seqIdleHold | .seqIdleStart | .seqSetupFirst | .seqSetupNext
  | .seqSettle | .seqCompleteNext | .seqCompleteLast
  | .subWait | .subLoad | .xferReject | .xferBegin | .xferDone | .xferWrite | .xferWait | .xferTimeout => s

/-- A command is handed over: its word is decoded and the instruction runs. -/
def runCommand (c : Command) (s : State) : Answer :=
  match decodeCmd c.word with
  | .error r => .refused (.badEncoding r)
  | .ok i => exec i (stage i c s)

/-- The task context has its turn: the loop of the TRANSFER in progress iterates once, since its task does not
yield (R130, R133); else the waiting SUBMIT tests the flag again (R102); else no task is inside this block. -/
def runTask (s : State) : Answer :=
  if s.xferActive then
    match decodeXloop (xloop s) with
    | some op => exec op.toInstr s
    | none => .refused .noMicroOperation
  else if s.submitUnit.isSome then
    match decodeSubv (subv s) with
    | some op => exec op.toInstr s
    | none => .refused .noMicroOperation
  else .next s

/-- A task's command that no task can issue yet, because a TRANSFER in progress does not yield (R130, R179). -/
def mustWait (c : Command) (s : State) : Bool :=
  s.xferActive &&
    match decodeCmd c.word with
    | .ok i => i.fromTask
    | .error _ => false

/-- One step: the next input is taken, or, where there is none or a command must wait, the task context runs. -/
def runNext (s : State) : Answer :=
  match s.inputs with
  | [] => runTask s
  | .command c :: rest =>
    if mustWait c s then runTask s else runCommand c { s with inputs := rest }
  | .taskTurn :: rest => runTask { s with inputs := rest }
  | .txe flag :: rest => .next { s with txe := flag, inputs := rest }
  | .now tick :: rest => .next { s with now := tick, inputs := rest }

/-- The state with a command word handed over next, beside it the operands the registers hold now. A TRANSFER in
progress would keep a task's command waiting, so it is over; SUBMIT and STEP come with a handle (R71, R21). -/
def placeCommand (w : Word) (s : State) : State :=
  let next := .command { word := w, pins := s.pinOperands, request := s.request } :: s.inputs
  match decodeCmd w with
  | .ok (.submit _) => { s with inputs := next, configured := true, xferActive := false }
  | .ok .step => { s with inputs := next, configured := true }
  | _ => { s with inputs := next, xferActive := false }

/-- A `bit_index` under which, at width 8, SEQV's fields `f` and `cc` are those given, as far as the row the
vector selects tests them: BitComplete's rows test `cc`, SetupBit's `f`. -/
def indexFor (ppp : BitVec 3) (f : Bool) (cc : BitVec 2) : BitVec 4 :=
  if ppp = 3#3 && cc != 0#2 then (if cc = 1#2 then 7#4 else 8#4)
  else if f then 0#4
  else if cc = 1#2 then 7#4
  else if cc = 0#2 then 1#4
  else 8#4

/-- The phase of a code (R73). No state holds a reserved code: it stands for Idle here. -/
def phaseOfCode (c : BitVec 3) : Phase :=
  if c = 1#3 then .setupBit
  else if c = 2#3 then .clockSettle
  else if c = 3#3 then .bitComplete
  else if c = 4#3 then .error
  else .idle

/-- The state whose next STEP forms the given SEQV vector, with that STEP handed over: SEQ selects its
micro-operation by its own state (R75, R111). For a vector of no row the state is the one unit position that
selects none, BitComplete past the last bit, so that its STEP is refused too (R80; log 10). -/
def placeSeqv (v : BitVec 8) (s : State) : State :=
  if decodeSeqv v = none then
    placeCommand 0x30000000#32
      { s with
        config := { s.config with dir := 0#2, width := .w8 }
        phase := .bitComplete
        bitIndex := 8#4 }
  else
    placeCommand 0x30000000#32
      { s with
        config := { s.config with dir := BitVec.setWidth 2 (v.extractLsb' 7 1), width := .w8 }
        phase := phaseOfCode (v.extractLsb' 4 3)
        dataReady := v.getLsbD 3
        bitIndex := indexFor (v.extractLsb' 4 3) (v.getLsbD 2) (v.extractLsb' 0 2) }

/-- The state whose next step is SUB's test of the flag with the given vector (R76): a SUBMIT is in progress and
its task has its turn. -/
def placeSubv (v : BitVec 1) (s : State) : State :=
  { s with
    configured := true
    dataReady := v.getLsbD 0
    submitUnit := some 0#16
    xferActive := false
    inputs := .taskTurn :: s.inputs }

/-- The state whose next step is an iteration of XFER's loop with the given vector (R77): a one-byte TRANSFER is
in progress, with a short timeout that is no sentinel, and its task has its turn. -/
def placeXloop (v : BitVec 3) (s : State) : State :=
  let timeout := if s.params.timeoutInfinite = 1#32 then 2#32 else 1#32
  { s with
    request := { buffer := some [0#8], length := 1, timeoutTicks := timeout, peripheral := 0 }
    cursor := if v.getLsbD 2 then 1 else 0
    remaining := if v.getLsbD 2 then 0 else 1
    txe := v.getLsbD 1
    startTick := if v.getLsbD 0 then s.now - timeout else s.now
    xferActive := true
    inputs := .taskTurn :: s.inputs }

/-- A table word of `nbits` bits placed where the next step takes its instruction. A width of no format leaves
the state as it is. -/
def placeWord (s : State) (nbits w : Nat) : State :=
  match formatOfBits nbits with
  | some .cmd => placeCommand (BitVec.ofNat 32 w) s
  | some .seqv => placeSeqv (BitVec.ofNat 8 w) s
  | some .subv => placeSubv (BitVec.ofNat 1 w) s
  | some .xloop => placeXloop (BitVec.ofNat 3 w) s
  | some .xent => s
  | none => s

end Sys2Proof.Machine
end

