-- ==== Sys2Proof/Machine/Step.lean ====
section
/-! DEFINITION. One step of the machine, and the host's way to place an instruction. -/

namespace Sys2Proof.Machine

open Sys2Proof

/-- One step: one agent's step or one act of the environment (R20). -/
def step (s : State) : Host.Outcome State Fault Refusal := runNext s

/-- `s` with the table word `w` of `nbits` bits where `step` takes its next instruction (log 10). -/
def State.withFetchWord (s : State) (nbits w : Nat) : State := placeWord s nbits w

end Sys2Proof.Machine
end

