-- ==== Sys2Proof/Safety.lean ====
section
/-! DEFINITION. What counts as a safe state (the invariant of R33, R34, R37 and R126), how runs of several steps
are written (R82), and the events a guarded pin write leaves. -/

namespace Sys2Proof.Machine

open Sys2Proof

/-- The invariant of the machine: what holds at reset and after every step. -/
structure Inv (s : State) : Prop where
  /-- Before CONFIGURE nothing of the engine is there (R170). -/
  unconfigured : s.configured = false →
    s.pins = PinSpace.empty ∧ s.phase = .idle ∧ s.dataReady = false ∧ s.submitUnit = none
  /-- R33 (a), and (b), its contrapositive. -/
  ready : s.configured = true → s.config.dir = 0#2 → s.dataReady = false → s.phase = .idle
  /-- R33 (e). -/
  noError : s.configured = true → s.config.dir = 0#2 → s.phase ≠ .error
  /-- R33, last sentence: an engine asked to receive is in Idle or in Error. -/
  receive : s.configured = true → s.config.dir ≠ 0#2 → s.phase = .idle ∨ s.phase = .error
  /-- R33 (c). -/
  index : s.bitIndex.toNat + 1 ≤ s.config.width.bits
  /-- R33 (d). -/
  register : ∀ i, s.config.width.bits ≤ i → s.shiftRegister.getLsbD i = false
  /-- R34: the pin space holds exactly the bound output pins. -/
  owned : s.configured = true → s.pins.sck.isSome = true ∧ s.pins.mosi.isSome = s.config.mosiPin.isSome ∧
    s.pins.cs.isSome = s.config.csPin.isSome
  /-- SCK stands at its idle level or at the trailing level of the last unit in Idle, in Error and before a unit's
  first bit (R114, R120, R127). -/
  resting : s.configured = true →
    s.phase = .idle ∨ s.phase = .error ∨ (s.phase = .setupBit ∧ s.bitIndex = 0#4) →
    s.pins.sck = some s.config.cpol ∨
      s.pins.sck = some (trailLevel s.params s.config.cpol s.config.cpha)
  /-- SCK stands at the trailing level between two bits (R119). -/
  between : s.configured = true → s.phase = .setupBit → s.bitIndex ≠ 0#4 →
    s.pins.sck = some (trailLevel s.params s.config.cpol s.config.cpha)
  /-- The pins of an engine asked to receive stand as CONFIGURE left them (R121, R157); chip-select by
  `deselected`. -/
  untouched : s.configured = true → s.config.dir ≠ 0#2 →
    s.pins.sck = some s.config.cpol ∧ (s.config.mosiPin.isSome = true → s.pins.mosi = some false)
  /-- SCK stands at the leading level in ClockSettle (R112). -/
  leading : s.configured = true → s.phase = .clockSettle →
    s.pins.sck = some (leadLevel s.params s.config.cpol s.config.cpha)
  /-- SCK stands at the trailing level in BitComplete (R113). -/
  trailing : s.configured = true → s.phase = .bitComplete →
    s.pins.sck = some (trailLevel s.params s.config.cpol s.config.cpha)
  /-- Chip-select is deasserted outside a unit, until its first SetupBit (R126, R121). -/
  deselected : s.configured = true → s.config.csPin.isSome = true →
    s.phase = .idle ∨ s.phase = .error ∨ (s.phase = .setupBit ∧ s.bitIndex = 0#4) →
    s.pins.cs = some (!s.params.csActiveLevel)
  /-- Chip-select is asserted inside a unit (R126). -/
  selected : s.configured = true → s.config.csPin.isSome = true →
    s.phase = .clockSettle ∨ s.phase = .bitComplete ∨ (s.phase = .setupBit ∧ s.bitIndex ≠ 0#4) →
    s.pins.cs = some s.params.csActiveLevel
  /-- R37: `cursor + remaining = length` during a TRANSFER, whose buffer is present. -/
  transfer : s.xferActive = true →
    s.request.buffer.isSome = true ∧ s.cursor + s.remaining = s.request.length

/-- `n` applications of one operation, stopping where it stops: `STEP*n` of R82 is `iterate (exec .step) n`. -/
def iterate (f : State → Answer) : Nat → State → Answer
  | 0, s => .next s
  | n + 1, s =>
    match f s with
    | .next t => iterate f n t
    | .fault r => .fault r
    | .refused r => .refused r

/-- The events a guarded `PinWrite` of a role leaves in `pin_trace`: one where the pin is bound, none where it is
absent (R53). -/
def pinEvents (c : SpiConfig) (r : OutPin) (l : Level) : List PinEvent :=
  match c.pinOf r with
  | none => []
  | some p => [{ role := r, pin := p, level := l }]

end Sys2Proof.Machine
end

