-- ==== Sys2Proof/Certificates/Slice0/Obligations.lean ====
section
/-! DEFINITION. The statements about SPIENG, made from the numbered rules of spec/. A statement that rests on a
choice of the spec (a decision D<n>) or of the model (a log entry) names it. -/

open Sys2Proof Sys2Proof.Machine

/-! Steps and encodings -/

/-- A command handed over is decoded and run: `step` is `exec` of the decoded instruction on the state with the
input taken and the instruction's own operands in its registers (R71). A word that is no command is refused by
name (R80). A task's command waits while a TRANSFER is in progress (the model's choice, log 7). -/
def Obligations.StepRunsDecodedCommand : Prop :=
  ∀ (s : State) (c : Command) (rest : List Input), s.inputs = .command c :: rest →
    (∀ i, decodeCmd c.word = .ok i → (s.xferActive = true → i.fromTask = false) →
      step s = exec i (stage i c { s with inputs := rest })) ∧
    (∀ r, decodeCmd c.word = .error r → step s = .refused (.badEncoding r))

/-- A task's turn is one micro-operation of the agent a task is inside (R20, R133): of XFER's loop while a
TRANSFER is in progress, else SUB's next test of a SUBMIT in progress; else nothing happens. With no input the
task context runs, and a task's command waits for the TRANSFER in progress (the model's choices, log 6, log 7). -/
def Obligations.TaskTurnRunsTheTaskInside : Prop :=
  ∀ (s u : State),
    (s.inputs = [] ∧ u = s) ∨ (∃ rest, s.inputs = .taskTurn :: rest ∧ u = { s with inputs := rest }) ∨
      (∃ c rest i, s.inputs = .command c :: rest ∧ decodeCmd c.word = .ok i ∧ i.fromTask = true ∧
        s.xferActive = true ∧ u = s) →
    (∀ op, s.xferActive = true → decodeXloop (xloop u) = some op → step s = exec op.toInstr u) ∧
    (∀ op, s.xferActive = false → s.submitUnit.isSome = true → decodeSubv (subv u) = some op →
      step s = exec op.toInstr u) ∧
    (s.xferActive = false → s.submitUnit = none → step s = .next u)

/-- The ready flag and the tick counter take the values their collaborators give them, and nothing else changes
(R161, R162; the model's inputs, log 6). -/
def Obligations.EnvironmentInputsChangeOnlyTheirOwn : Prop :=
  ∀ (s : State) (rest : List Input),
    (∀ flag, s.inputs = .txe flag :: rest → step s = .next { s with txe := flag, inputs := rest }) ∧
    (∀ tick, s.inputs = .now tick :: rest → step s = .next { s with now := tick, inputs := rest })

/-- Words written out from the encodings of R71, R72, R75, R76 and R77 decode to what they stand for. -/
def Obligations.KnownWordsDecode : Prop :=
  decode .cmd 0x10000B35#32 = .ok (.configure
      { cpol := 1#2, cpha := 1#2, width := .w16, order := .lsbFirst, dir := 0#2, sckPresent := true,
        mosiPresent := true, misoPresent := false, csPresent := true }) ∧
    decode .cmd 0x200000A3#32 = .ok (.submit 0x00A3#16) ∧
    decode .cmd 0x30000000#32 = .ok .step ∧
    decode .cmd 0x40000000#32 = .ok .transfer ∧
    decode .seqv 0x19#32 = .ok .seqSetupNext ∧
    decode .seqv 0x39#32 = .ok .seqCompleteLast ∧
    decode .subv 0x1#32 = .ok .subWait ∧
    decode .xent 0x0#32 = .ok .xferBegin ∧
    decode .xloop 0x3#32 = .ok .xferWrite

/-- Decoding the encoding of any well-formed instruction, in its format, gives it back, with every operand at
every value (R71, R72, R75, R76, R77; the layouts are the spec's decisions D14, D16, D17). -/
def Obligations.DecodeInvertsEncode : Prop :=
  ∀ i : Instr, i.wellFormed = true → decode i.format (encode i) = .ok i

/-- A word is a command exactly when it has the pattern of one of R71's four rows under its mask; every other
word is rejected (R80, the spec's decision D27). -/
def Obligations.CommandWordsAreTheFourRows : Prop :=
  ∀ w : Word, (∃ i, decodeCmd w = .ok i) ↔
    w &&& 0xFFFFF000#32 = 0x10000000#32 ∨ w &&& 0xFFFF0000#32 = 0x20000000#32 ∨
      w = 0x30000000#32 ∨ w = 0x40000000#32

/-- A command word has one meaning: the encoding of what it decodes to is the word itself (R71, D16). -/
def Obligations.EncodeInvertsDecodeOfCommands : Prop :=
  ∀ (w : Word) (i : Instr), decodeCmd w = .ok i → encode i = w

/-- The rejections by name (R80, the spec's decision D27): of command words a reserved operation code and a bit that
must be 0; in every format a bit above its width (the model's reading of a longer word, log 10); of SEQV vectors the
phase codes 5 to 7 without the direction bit, and BitComplete with `cc` 2 or 3. -/
def Obligations.ReservedWordsRejectedByName : Prop :=
  ∀ w : Word,
    (w.toNat / 2 ^ 28 = 0 ∨ 5 ≤ w.toNat / 2 ^ 28 → decodeCmd w = .error .reservedOp) ∧
    (1 ≤ w.toNat / 2 ^ 28 → w.toNat / 2 ^ 28 ≤ 4 → w.toNat / 2 ^ 16 % 2 ^ 12 ≠ 0 →
      decodeCmd w = .error .mustBeZero) ∧
    (w.toNat / 2 ^ 28 = 1 → w.toNat / 2 ^ 12 % 2 ^ 4 ≠ 0 → decodeCmd w = .error .mustBeZero) ∧
    (w.toNat / 2 ^ 28 = 3 ∨ w.toNat / 2 ^ 28 = 4 → w.toNat % 2 ^ 16 ≠ 0 → decodeCmd w = .error .mustBeZero) ∧
    (∀ f : Format, 2 ^ f.bits ≤ w.toNat → decode f w = .error .mustBeZero) ∧
    (w.toNat < 2 ^ 7 → 5 ≤ w.toNat / 2 ^ 4 → decode .seqv w = .error .noRow) ∧
    (w.toNat / 2 ^ 4 = 3 → 2 ≤ w.toNat % 2 ^ 2 → decode .seqv w = .error .noRow)

/-- A vector of SEQV, SUBV, XENT or XLOOP decodes to an instruction exactly when, within its format's width, it has
that instruction's pattern under its row's mask, whatever the bits the row does not test (R75, R76, R77; the
packing is the spec's decision D17). -/
def Obligations.VectorWordsAreTheirRows : Prop :=
  ∀ (w : Word) (i : Instr),
    (decode .seqv w = .ok i ↔ w.toNat < 2 ^ 8 ∧
      ((i = .seqErrEnter ∧ w &&& 0x80#32 = 0x80#32) ∨ (i = .seqErrHold ∧ w &&& 0xF0#32 = 0x40#32) ∨
        (i = .seqIdleHold ∧ w &&& 0xF8#32 = 0x00#32) ∨ (i = .seqIdleStart ∧ w &&& 0xF8#32 = 0x08#32) ∨
        (i = .seqSetupFirst ∧ w &&& 0xF4#32 = 0x14#32) ∨ (i = .seqSetupNext ∧ w &&& 0xF4#32 = 0x10#32) ∨
        (i = .seqSettle ∧ w &&& 0xF0#32 = 0x20#32) ∨ (i = .seqCompleteNext ∧ w &&& 0xF3#32 = 0x30#32) ∨
        (i = .seqCompleteLast ∧ w &&& 0xF3#32 = 0x31#32))) ∧
    (decode .subv w = .ok i ↔ (i = .subWait ∧ w = 1#32) ∨ (i = .subLoad ∧ w = 0#32)) ∧
    (decode .xent w = .ok i ↔ (i = .xferReject ∧ w = 1#32) ∨ (i = .xferBegin ∧ w = 0#32)) ∧
    (decode .xloop w = .ok i ↔ w.toNat < 2 ^ 3 ∧
      ((i = .xferDone ∧ w &&& 0x4#32 = 0x4#32) ∨ (i = .xferWrite ∧ w &&& 0x6#32 = 0x2#32) ∨
        (i = .xferWait ∧ w = 0#32) ∨ (i = .xferTimeout ∧ w = 1#32)))

/-! Before CONFIGURE, and CONFIGURE -/

/-- Before the first CONFIGURE the engine is not configured, the traces are empty, no TRANSFER and no SUBMIT is
in progress and no pin is owned (R170, R43, and the start state of 95_test_vectors.md section 7). -/
def Obligations.ResetIsUnconfigured : Prop :=
  State.reset.configured = false ∧ State.reset.pinTrace = [] ∧ State.reset.drTrace = [] ∧
    State.reset.results = [] ∧ State.reset.xferActive = false ∧ State.reset.submitUnit = none ∧
    State.reset.pins = PinSpace.empty ∧ State.reset.inputs = []

/-- SUBMIT and STEP have no meaning without a handle: they are refused (R21, the spec's decision D21). -/
def Obligations.UnconfiguredEngineRefusesSubmitAndStep : Prop :=
  ∀ s : State, s.configured = false →
    exec .step s = .refused .notConfigured ∧ ∀ unit, exec (.submit unit) s = .refused .notConfigured

/-- A successful CONFIGURE (R92, with the spec's decisions D8 and D19): SpiConfig from the operands (R78), the
directions, SCK driven to `cpol`, chip-select to its inactive level and data-out low where they are present, in
that order, EngineState at its reset values (R43), result Ok, and nothing else. -/
def Obligations.ConfigureInstallsAndResets : Prop :=
  ∀ (cfg : Cfg) (s : State), cfg.cpol.toNat ≤ 1 → cfg.cpha.toNat ≤ 1 → cfg.sckPresent = true →
    s.configured = false ∨
      (s.submitUnit = none ∧ ((s.phase = .idle ∧ s.dataReady = false) ∨ s.phase = .error)) →
    (cfg.boundPins s.pinOperands).Nodup →
    ∀ c : SpiConfig,
      c = { cpol := cfg.cpol.getLsbD 0
            cpha := cfg.cpha.getLsbD 0
            width := cfg.width
            order := cfg.order
            dir := cfg.dir
            sckPin := s.pinOperands.sck
            mosiPin := if cfg.mosiPresent then some s.pinOperands.mosi else none
            misoPin := if cfg.misoPresent then some s.pinOperands.miso else none
            csPin := if cfg.csPresent then some s.pinOperands.cs else none } →
      exec (.configure cfg) s = .next
        { s with
          configured := true
          config := c
          directions :=
            { sck := some .output
              mosi := if cfg.mosiPresent then some .output else none
              miso := if cfg.misoPresent then some .input else none
              cs := if cfg.csPresent then some .output else none }
          pins :=
            { sck := some c.cpol
              mosi := if cfg.mosiPresent then some false else none
              cs := if cfg.csPresent then some (!s.params.csActiveLevel) else none }
          pinTrace := s.pinTrace ++ pinEvents c .sck c.cpol ++ pinEvents c .cs (!s.params.csActiveLevel) ++
            pinEvents c .mosi false
          phase := .idle
          bitIndex := 0#4
          shiftRegister := 0#16
          dataReady := false
          results := s.results ++ [{ operation := .configure, code := .ok }] }

/-- A CONFIGURE with polarity or phase outside {0,1}, or with no clock pin, answers InvalidConfiguration and
changes nothing, whatever is in flight (R91, R93, D19, D20; before the refusals by log 13). -/
def Obligations.InvalidConfigureChangesNothing : Prop :=
  ∀ (cfg : Cfg) (s : State), 2 ≤ cfg.cpol.toNat ∨ 2 ≤ cfg.cpha.toNat ∨ cfg.sckPresent = false →
    exec (.configure cfg) s = .next
      { s with results := s.results ++ [{ operation := .configure, code := .invalidConfiguration }] }

/-- A legal CONFIGURE is refused while a unit is in flight or a SUBMIT is in progress (R94, the spec's decision
D20), and, with nothing in flight, where it binds two roles to one pin (R51, D26; the order by log 13). -/
def Obligations.ConfigureRefusals : Prop :=
  ∀ (cfg : Cfg) (s : State), cfg.cpol.toNat ≤ 1 → cfg.cpha.toNat ≤ 1 → cfg.sckPresent = true →
    (s.configured = true →
      s.submitUnit.isSome = true ∨ (s.phase ≠ .error ∧ (s.phase ≠ .idle ∨ s.dataReady = true)) →
      exec (.configure cfg) s = .refused .configureInFlight) ∧
    (s.configured = false ∨
        (s.submitUnit = none ∧ ((s.phase = .idle ∧ s.dataReady = false) ∨ s.phase = .error)) →
      ¬ (cfg.boundPins s.pinOperands).Nodup →
      exec (.configure cfg) s = .refused .pinsNotDistinct)

/-- SpiConfig, the handle and the pins' directions are written by a successful CONFIGURE and by nothing else (R22,
R21). -/
def Obligations.SpiConfigWrittenByConfigureOnly : Prop :=
  ∀ (i : Instr) (s t : State), exec i s = .next t →
    (∃ cfg, i = .configure cfg ∧ cfg.valid = true) ∨
      (t.config = s.config ∧ t.configured = s.configured ∧ t.directions = s.directions)

/-! The bit-order multiplexer and SUBMIT -/

/-- `reverse_bits(v, w)` bit by bit: bit `i` is bit `w-1-i` of `v`, and the result is zero above bit `w-1` (R101;
the bits of `v` above `w-1` by the spec's decision D13). -/
def Obligations.ReverseBitsBitByBit : Prop :=
  ∀ (v : UnitWord) (w : Width) (i : Nat),
    (i < w.bits → (reverseBits v w).getLsbD i = v.getLsbD (w.bits - 1 - i)) ∧
    (w.bits ≤ i → (reverseBits v w).getLsbD i = false)

/-- The law the source states of `reverse_bits` (R101, S4): it undoes itself on values of `w` bits. -/
def Obligations.ReverseBitsUndoesItself : Prop :=
  ∀ (v : UnitWord) (w : Width), v.toNat < 2 ^ w.bits → reverseBits (reverseBits v w) w = v

/-- The bit-order law (R104, S3): submitting `v` MSB-first loads what submitting `reverse_bits(v, W)` LSB-first
loads; and an LSB-first load is the unit's own low `W` bits, zero above (D13). -/
def Obligations.BitOrderLaw : Prop :=
  ∀ (c : SpiConfig) (v : UnitWord),
    wireValue { c with order := .msbFirst } v =
      wireValue { c with order := .lsbFirst } (reverseBits v c.width) ∧
    ∀ i, (wireValue { c with order := .lsbFirst } v).getLsbD i = (decide (i < c.width.bits) && v.getLsbD i)

/-- SUBMIT finds the flag clear: SUB_LOAD at once. The wire value is loaded, `bit_index` cleared, `data_ready`
set, and the call returns; nothing else changes, and no test of Error is made (R100, R103, R105, R106). Both
bits of the law of R104 give the loaded value. That the test and the writes are one action is R63's derivation. -/
def Obligations.SubmitLoadsAFreeEngine : Prop :=
  ∀ (unit : UnitWord) (s : State), s.configured = true → s.submitUnit = none → s.dataReady = false →
    exec (.submit unit) s = .next
      { s with shiftRegister := wireValue s.config unit, bitIndex := 0#4, dataReady := true }

/-- SUBMIT finds the flag set: the caller is suspended, and the unit in flight is untouched (R102, R107). -/
def Obligations.SubmitWaitsForABusyEngine : Prop :=
  ∀ (unit : UnitWord) (s : State), s.configured = true → s.submitUnit = none → s.dataReady = true →
    exec (.submit unit) s = .next { s with submitUnit := some unit }

/-- A second caller inside SUBMIT is refused (R40, U2; the spec's treatment of what the source calls "never shared
across concurrent callers"). -/
def Obligations.SecondSubmitRefused : Prop :=
  ∀ (unit : UnitWord) (s : State), s.configured = true → s.submitUnit.isSome = true →
    exec (.submit unit) s = .refused .submitInProgress

/-- SUB_WAIT (R102) writes nothing, and the waiting call stays as it is; the task's next turn tests the flag again.
Only SEQ_COMPLETE_LAST ends the wait, as the micro-operation or as the STEP that selects it; in Error no STEP ever
does. -/
def Obligations.SubWaitWritesNothing : Prop :=
  ∀ s : State, s.configured = true → s.submitUnit.isSome = true → s.dataReady = true →
    exec .subWait s = .next s ∧
    (∀ rest, s.xferActive = false → s.inputs = .taskTurn :: rest →
      step s = exec .subWait { s with inputs := rest }) ∧
    (∀ (i : Instr) (t : State), exec i s = .next t → t.dataReady = false →
      (i = .step ∨ i = .seqCompleteLast) ∧ exec .seqCompleteLast s = .next t) ∧
    (s.phase = .error → ∀ n, iterate (exec .step) n s = .next s)

/-- SUB_LOAD: the waiting call's unit is loaded, and it returns (R103, R107; one action by R63's derivation). -/
def Obligations.SubLoadLoadsTheWaitingUnit : Prop :=
  ∀ (unit : UnitWord) (s : State), s.configured = true → s.submitUnit = some unit → s.dataReady = false →
    exec .subLoad s = .next
      { s with
        shiftRegister := wireValue s.config unit, bitIndex := 0#4, dataReady := true, submitUnit := none }

/-- The frame of SUBMIT and its micro-operations (R27, R164): they write the shift register, `bit_index`,
`data_ready` and the call in progress, and nothing else: no pin, no phase, no configuration, no TRANSFER state. -/
def Obligations.SubmitFrame : Prop :=
  ∀ (i : Instr) (s t : State), (∃ unit, i = .submit unit) ∨ i = .subWait ∨ i = .subLoad → exec i s = .next t →
    t = { s with
          shiftRegister := t.shiftRegister
          bitIndex := t.bitIndex
          dataReady := t.dataReady
          submitUnit := t.submitUnit }

/-- `data_ready` as the synchronising variable (R64): SUB never clears it, SEQ never sets it; XFER leaves it. -/
def Obligations.DataReadyHandOff : Prop :=
  ∀ (i : Instr) (s t : State), exec i s = .next t → t.dataReady ≠ s.dataReady →
    (s.dataReady = false ∧ ((∃ unit, i = .submit unit) ∨ i = .subLoad)) ∨
      (s.dataReady = true ∧ (i = .step ∨ i = .seqCompleteLast ∨ ∃ cfg, i = .configure cfg))

/-! STEP and the sequencer -/

/-- Dispatch (R111; the direction test first by the spec's decision D6): a STEP is exactly the one micro-operation
its state selects. -/
def Obligations.StepSelectsOneMicroOperation : Prop :=
  ∀ s : State, s.configured = true →
    exec .step s =
      if s.config.dir ≠ 0#2 then exec .seqErrEnter s
      else
        match s.phase with
        | .error => exec .seqErrHold s
        | .idle => if s.dataReady then exec .seqIdleStart s else exec .seqIdleHold s
        | .setupBit => if s.bitIndex = 0#4 then exec .seqSetupFirst s else exec .seqSetupNext s
        | .clockSettle => exec .seqSettle s
        | .bitComplete =>
          if s.bitIndex.toNat + 1 < s.config.width.bits then exec .seqCompleteNext s
          else if s.bitIndex.toNat + 1 = s.config.width.bits then exec .seqCompleteLast s
          else .refused .noMicroOperation

/-- `lead_level` for each value of LEAD_RULE, as R112 tabulates it; FORMULA, the rule, is `cpha` (the spec's
decision D1 on conflict C1, log 2). -/
def Obligations.LeadLevelTable : Prop :=
  ∀ (p : Params) (cpol cpha : Level),
    (p.leadRule = .formula → leadLevel p cpol cpha = cpha) ∧
    (p.leadRule = .gloss → leadLevel p cpol cpha = !cpha) ∧
    (p.leadRule = .standard → leadLevel p cpol cpha = decide (cpol ≠ cpha))

/-- `trail_level` is the complement of `lead_level` (R113), so `!cpha` under the default rule, and it is the level a
STEP in ClockSettle drives on SCK. -/
def Obligations.TrailLevelComplementsLead : Prop :=
  ∀ (p : Params) (cpol cpha : Level),
    trailLevel p cpol cpha = !(leadLevel p cpol cpha) ∧
    (p.leadRule = .formula → trailLevel p cpol cpha = !cpha) ∧
    ∀ s : State, s.params = p → s.config.cpol = cpol → s.config.cpha = cpha → s.configured = true →
      s.config.dir = 0#2 → s.phase = .clockSettle →
      ∃ t : State, exec .step s = .next t ∧ t.pins.sck = some (!(leadLevel p cpol cpha))

/-- SEQ_IDLE_HOLD drives SCK to its idle level and nothing else (R114; the drive at every such step is the spec's
decision D10). -/
def Obligations.IdleHoldDrivesIdleClock : Prop :=
  ∀ s : State, s.configured = true → s.config.dir = 0#2 → s.phase = .idle → s.dataReady = false →
    ∀ t : State,
      t = { s with
            pins := { s.pins with sck := some s.config.cpol }
            pinTrace := s.pinTrace ++ [{ role := .sck, pin := s.config.sckPin, level := s.config.cpol }] } →
      exec .step s = .next t ∧ exec .seqIdleHold s = .next t

/-- SEQ_IDLE_START clears `bit_index` and enters SetupBit; no pin is written (R115; the spec's decision D11). -/
def Obligations.IdleStartEntersSetupBit : Prop :=
  ∀ s : State, s.configured = true → s.config.dir = 0#2 → s.phase = .idle → s.dataReady = true →
    ∀ t : State, t = { s with bitIndex := 0#4, phase := .setupBit } →
      exec .step s = .next t ∧ exec .seqIdleStart s = .next t

/-- SEQ_SETUP_FIRST (R116; the order of the writes is the spec's decision D9, the shift D12): chip-select is
asserted where it is present, the low bit leaves the shift register for MOSI where it is present, SCK takes its
leading level, and nothing else changes. -/
def Obligations.SetupFirstAssertsAndShifts : Prop :=
  ∀ s : State, s.configured = true → s.config.dir = 0#2 → s.phase = .setupBit → s.bitIndex = 0#4 →
    ∀ (b lead : Level), b = s.shiftRegister.getLsbD 0 →
      lead = leadLevel s.params s.config.cpol s.config.cpha →
      ∀ t : State,
        t = { s with
              phase := .clockSettle
              shiftRegister := s.shiftRegister >>> 1
              pins :=
                { sck := some lead
                  mosi := if s.config.mosiPin.isSome then some b else s.pins.mosi
                  cs := if s.config.csPin.isSome then some s.params.csActiveLevel else s.pins.cs }
              pinTrace := s.pinTrace ++ pinEvents s.config .cs s.params.csActiveLevel ++
                pinEvents s.config .mosi b ++ pinEvents s.config .sck lead } →
        exec .step s = .next t ∧ exec .seqSetupFirst s = .next t

/-- SEQ_SETUP_NEXT (R117, as R116 without the chip-select write; order and shift D9, D12): chip-select keeps its
level. -/
def Obligations.SetupNextShifts : Prop :=
  ∀ s : State, s.configured = true → s.config.dir = 0#2 → s.phase = .setupBit → s.bitIndex ≠ 0#4 →
    ∀ (b lead : Level), b = s.shiftRegister.getLsbD 0 →
      lead = leadLevel s.params s.config.cpol s.config.cpha →
      ∀ t : State,
        t = { s with
              phase := .clockSettle
              shiftRegister := s.shiftRegister >>> 1
              pins :=
                { s.pins with
                  sck := some lead, mosi := if s.config.mosiPin.isSome then some b else s.pins.mosi }
              pinTrace := s.pinTrace ++ pinEvents s.config .mosi b ++ pinEvents s.config .sck lead } →
        exec .step s = .next t ∧ exec .seqSetupNext s = .next t

/-- SEQ_SETTLE drives SCK to its trailing level (R118), which changes it in every state that meets the invariant;
MOSI and chip-select are not touched. -/
def Obligations.SettleDrivesTrailingLevel : Prop :=
  ∀ s : State, s.configured = true → s.config.dir = 0#2 → s.phase = .clockSettle →
    ∀ (trail : Level), trail = trailLevel s.params s.config.cpol s.config.cpha →
      (∀ t : State,
        t = { s with
              phase := .bitComplete
              pins := { s.pins with sck := some trail }
              pinTrace := s.pinTrace ++ [{ role := .sck, pin := s.config.sckPin, level := trail }] } →
        exec .step s = .next t ∧ exec .seqSettle s = .next t) ∧
      (Inv s → s.pins.sck ≠ some trail)

/-- SEQ_COMPLETE_NEXT increments `bit_index`, without overflow, to at most `W - 1`, and enters SetupBit; no pin is
written (R119). -/
def Obligations.CompleteNextIncrements : Prop :=
  ∀ s : State, s.configured = true → s.config.dir = 0#2 → s.phase = .bitComplete →
    s.bitIndex.toNat + 1 < s.config.width.bits →
    (∀ t : State, t = { s with bitIndex := s.bitIndex + 1#4, phase := .setupBit } →
      exec .step s = .next t ∧ exec .seqCompleteNext s = .next t) ∧
    (s.bitIndex + 1#4).toNat = s.bitIndex.toNat + 1 ∧ s.bitIndex.toNat + 1 ≤ s.config.width.bits - 1

/-- SEQ_COMPLETE_LAST deasserts chip-select where it is present, clears `data_ready` and enters Idle; `bit_index`,
SCK and MOSI keep their values (R120). -/
def Obligations.CompleteLastClearsDataReady : Prop :=
  ∀ s : State, s.configured = true → s.config.dir = 0#2 → s.phase = .bitComplete →
    s.bitIndex.toNat + 1 = s.config.width.bits →
    ∀ t : State,
      t = { s with
            phase := .idle
            dataReady := false
            pins := { s.pins with
              cs := if s.config.csPin.isSome then some (!s.params.csActiveLevel) else s.pins.cs }
            pinTrace := s.pinTrace ++ pinEvents s.config .cs (!s.params.csActiveLevel) } →
      exec .step s = .next t ∧ exec .seqCompleteLast s = .next t

/-- SEQ_ERR_ENTER: an engine asked to receive enters Error at any STEP, in any phase; no pin is written and nothing
else changes, and ERR is 1 (R121, R157; that every phase fires it is the spec's decision D6). -/
def Obligations.ErrEnterIsUnsupported : Prop :=
  ∀ s : State, s.configured = true → s.config.dir ≠ 0#2 →
    exec .step s = .next { s with phase := .error } ∧ exec .seqErrEnter s = .next { s with phase := .error } ∧
      State.err { s with phase := .error } = true

/-- SEQ_ERR_HOLD: in Error a STEP changes nothing (R122), and ERR is 1 (R35, the spec's decision D7). With `dir` not transmit-only the STEP is
SEQ_ERR_ENTER, of the same effect; with `dir` transmit-only no state that meets the invariant is in Error. -/
def Obligations.ErrHoldChangesNothing : Prop :=
  ∀ s : State, s.configured = true → s.phase = .error →
    exec .step s = .next s ∧ State.err s = true ∧
    (s.config.dir = 0#2 → exec .seqErrHold s = .next s) ∧
    (s.config.dir ≠ 0#2 → exec .seqErrEnter s = .next s) ∧
    (Inv s → s.config.dir ≠ 0#2)

/-- Only a new CONFIGURE leaves Error (R158, "the only way to a working engine is a new CONFIGURE"). -/
def Obligations.ErrorLeftByConfigureOnly : Prop :=
  ∀ (i : Instr) (s t : State), s.configured = true → s.phase = .error → exec i s = .next t → t.phase ≠ .error →
    ∃ cfg, i = .configure cfg

/-- The frame of STEP and its nine micro-operations (R27, R110, R164): they write EngineState, the pin space and
the pin trace, and nothing else: no configuration, no register of XFER, nothing of the peripheral. -/
def Obligations.SequencerFrame : Prop :=
  ∀ (i : Instr) (s t : State),
    i = .step ∨ i = .seqErrEnter ∨ i = .seqErrHold ∨ i = .seqIdleHold ∨ i = .seqIdleStart ∨
      i = .seqSetupFirst ∨ i = .seqSetupNext ∨ i = .seqSettle ∨ i = .seqCompleteNext ∨ i = .seqCompleteLast →
    exec i s = .next t →
    t = { s with
          phase := t.phase
          bitIndex := t.bitIndex
          shiftRegister := t.shiftRegister
          dataReady := t.dataReady
          pins := t.pins
          pinTrace := t.pinTrace }

/-- In a state that meets the invariant a configured engine always takes its STEP, whatever its phase: the vectors
R80 refuses never arise (R33, R110). -/
def Obligations.SafeEngineAlwaysSteps : Prop :=
  ∀ s : State, Inv s → s.configured = true → ∃ t, exec .step s = .next t

/-- The step-count law (R123). From a load made in Idle: STEP 1 enters SetupBit, and for bit `k` STEP `3k+2` is the
SetupBit, STEP `3k+3` the ClockSettle, STEP `3k+4` the BitComplete; `data_ready` is 1 after each of STEPs 1 to
`3W`, and STEP `3W+1` clears it, in Idle. -/
def Obligations.UnitTakesThreeStepsPerBit : Prop :=
  ∀ s : State, s.configured = true → s.config.dir = 0#2 → s.phase = .idle → s.dataReady = true →
    (∀ k, k < s.config.width.bits → ∃ a b c : State,
      iterate (exec .step) (3 * k + 1) s = .next a ∧ a.phase = .setupBit ∧ a.bitIndex.toNat = k ∧
        a.dataReady = true ∧
      iterate (exec .step) (3 * k + 2) s = .next b ∧ b.phase = .clockSettle ∧ b.bitIndex.toNat = k ∧
        b.dataReady = true ∧
      iterate (exec .step) (3 * k + 3) s = .next c ∧ c.phase = .bitComplete ∧ c.bitIndex.toNat = k ∧
        c.dataReady = true) ∧
    ∃ t : State, iterate (exec .step) (3 * s.config.width.bits + 1) s = .next t ∧ t.dataReady = false ∧
      t.phase = .idle ∧ t.bitIndex.toNat + 1 = s.config.width.bits

/-- The wire sequence and the clock waveform (R125, R124, derivations of the spec from its rules). For a unit loaded
as `shift_register`, bit `k` is on MOSI after STEPs `3k+2` to `3k+4`, SCK at its leading level after the first of
them and at its trailing level after the other two; after STEP `3W-1` the shift register is 0. -/
def Obligations.UnitWaveform : Prop :=
  ∀ s : State, s.configured = true → s.config.dir = 0#2 → s.phase = .idle → s.dataReady = true →
    (∀ i, s.config.width.bits ≤ i → s.shiftRegister.getLsbD i = false) →
    ∀ (lead : Level), lead = leadLevel s.params s.config.cpol s.config.cpha →
    (∀ k, k < s.config.width.bits → ∃ b c d : State,
      iterate (exec .step) (3 * k + 2) s = .next b ∧ iterate (exec .step) (3 * k + 3) s = .next c ∧
        iterate (exec .step) (3 * k + 4) s = .next d ∧
      b.pins.sck = some lead ∧ c.pins.sck = some (!lead) ∧ d.pins.sck = some (!lead) ∧
      (s.config.mosiPin.isSome = true →
        b.pins.mosi = some (s.shiftRegister.getLsbD k) ∧ c.pins.mosi = some (s.shiftRegister.getLsbD k) ∧
          d.pins.mosi = some (s.shiftRegister.getLsbD k)) ∧
      (k + 1 = s.config.width.bits → b.shiftRegister = 0#16))

/-- Chip-select frames every unit on its own (R126, a derivation of the spec): over the `3W+1` STEPs of a unit it is
asserted first, before any other pin write, deasserted last, and not written between. -/
def Obligations.ChipSelectFramesTheUnit : Prop :=
  ∀ s : State, s.configured = true → s.config.dir = 0#2 → s.phase = .idle → s.dataReady = true →
    ∃ (t : State) (inside : List PinEvent),
      iterate (exec .step) (3 * s.config.width.bits + 1) s = .next t ∧
      t.pinTrace = s.pinTrace ++ pinEvents s.config .cs s.params.csActiveLevel ++ inside ++
        pinEvents s.config .cs (!s.params.csActiveLevel) ∧
      ∀ e ∈ inside, e.role ≠ .cs

/-- An engine asked to receive stands in Error after any number of STEPs, and nothing else has changed (R121, R158,
the vector V6). -/
def Obligations.ReceiveEngineStaysInError : Prop :=
  ∀ (s : State) (n : Nat), s.configured = true → s.config.dir ≠ 0#2 → 1 ≤ n →
    iterate (exec .step) n s = .next { s with phase := .error }

/-! TRANSFER -/

/-- XFER_REJECT: an absent buffer, or length 0, is answered InvalidArgument, and nothing is read or written (R131). -/
def Obligations.EmptyTransferRejected : Prop :=
  ∀ s : State, s.xferActive = false → s.request.buffer = none ∨ s.request.length = 0 →
    ∀ t : State,
      t = { s with results := s.results ++ [{ operation := .transfer, code := .invalidArgument }] } →
      exec .transfer s = .next t ∧ exec .xferReject s = .next t

/-- XFER_BEGIN: transmit-only mode, the entry tick, the working registers, and nothing else (R132; its order is the
spec's own, D22). It runs for every present buffer and every length but 0, also a length that is not the number of
the buffer's bytes (the model's choice, log 15). -/
def Obligations.TransferBegins : Prop :=
  ∀ s : State, s.xferActive = false → s.request.buffer.isSome = true → s.request.length ≠ 0 →
    ∀ t : State,
      t = { s with
            txOnly := true, startTick := s.now, cursor := 0, remaining := s.request.length, xferActive := true } →
      exec .transfer s = .next t ∧ exec .xferBegin s = .next t

/-- XFER_WRITE: the flag is set, so the byte at the cursor is handed to the data register, whether or not the
deadline has passed (R134, R156 (c)). In a state that meets the invariant the cursor is below `length`, and there
is a byte where `length` is the number of the buffer's bytes (R36). -/
def Obligations.XferWriteHandsOffOneByte : Prop :=
  ∀ (s : State) (bytes : List Byte), s.xferActive = true → s.remaining ≠ 0 → s.txe = true →
    s.request.buffer = some bytes →
    (∀ b : Byte, s.cursor < s.request.length → bytes[s.cursor]? = some b →
      exec .xferWrite s = .next
        { s with
          dataRegister := b
          drTrace := s.drTrace ++ [b]
          cursor := s.cursor + 1
          remaining := s.remaining - 1 }) ∧
    (Inv s → s.cursor < s.request.length ∧ (s.request.wellFormed = true → ∃ b, bytes[s.cursor]? = some b))

/-- XFER_WRITE where the buffer has no byte. Below `length` the instruction runs with some byte, a free value whose
draw is counted: the spec states no value there (the model's choice, log 15). Outside R52's range, which no state that
meets the invariant reaches, it faults. -/
def Obligations.XferWritePastTheBuffer : Prop :=
  ∀ s : State, s.xferActive = true → s.remaining ≠ 0 → s.txe = true →
    (∀ bytes : List Byte, s.request.buffer = some bytes → bytes.length ≤ s.cursor →
      s.cursor < s.request.length →
      ∃ b : Byte, exec .xferWrite s = .next
        { s with
          dataRegister := b
          drTrace := s.drTrace ++ [b]
          cursor := s.cursor + 1
          remaining := s.remaining - 1
          freeCount := s.freeCount + 1 }) ∧
    (s.request.buffer = none ∨ s.request.length ≤ s.cursor → exec .xferWrite s = .fault .bufferOutOfRange)

/-- XFER_WAIT: the flag is clear and the deadline does not apply or has not passed; nothing changes (R135, R138). -/
def Obligations.XferWaitChangesNothing : Prop :=
  ∀ s : State, s.xferActive = true → s.remaining ≠ 0 → s.txe = false →
    s.request.timeoutTicks = 0#32 ∨ s.request.timeoutTicks = s.params.timeoutInfinite ∨
      (s.now - s.startTick).toNat < s.request.timeoutTicks.toNat →
    exec .xferWait s = .next s

/-- XFER_TIMEOUT: the flag is clear, `timeout_ticks` is neither sentinel, and `elapsed >= timeout_ticks`. The call
ends with Timeout; the bytes written stay written (R136). The mode is left at some value (U9), and that draw is
counted (log 8). That `start_tick`, `cursor`, `remaining` and the request keep their last values is the model's
choice, not a rule: R37 and R43 give them no value after the call (DESIGN CHOICE, log 24). `elapsed` is modulo 2^32 by
the spec's decision D4. -/
def Obligations.XferTimeoutEndsTheCall : Prop :=
  ∀ s : State, s.xferActive = true → s.remaining ≠ 0 → s.txe = false →
    s.request.timeoutTicks ≠ 0#32 → s.request.timeoutTicks ≠ s.params.timeoutInfinite →
    s.request.timeoutTicks.toNat ≤ (s.now - s.startTick).toNat →
    ∃ mode : Bool, exec .xferTimeout s = .next
      { s with
        xferActive := false
        txOnly := mode
        freeCount := s.freeCount + 1
        results := s.results ++ [{ operation := .transfer, code := .timeout }] }

/-- XFER_DONE: every byte has been handed off; the call ends with Ok, whatever the flag and the deadline (R137,
R156 (c)). The mode is left at some value (U9), and that draw is counted (log 8). That `start_tick`, `cursor`,
`remaining` and the request keep their last values is the model's choice, not a rule: R37 and R43 give them no value
after the call (DESIGN CHOICE, log 24). -/
def Obligations.XferDoneReturnsOk : Prop :=
  ∀ s : State, s.xferActive = true → s.remaining = 0 →
    ∃ mode : Bool, exec .xferDone s = .next
      { s with
        xferActive := false
        txOnly := mode
        freeCount := s.freeCount + 1
        results := s.results ++ [{ operation := .transfer, code := .ok }] }

/-- The entry refusal that is the model's own (log 7): a call entered while one is in progress. -/
def Obligations.TransferRefusals : Prop :=
  ∀ s : State, s.xferActive = true →
    exec .transfer s = .refused .transferInProgress ∧ exec .xferReject s = .refused .transferInProgress ∧
      exec .xferBegin s = .refused .transferInProgress

/-- The deadline in numbers (R138, R139; modulo 2^32 by the spec's decision D4): neither sentinel, and the ticks from
the entry tick to now, counted modulo 2^32, reach the timeout. -/
def Obligations.DeadlineArithmetic : Prop :=
  ∀ s : State, deadlinePassed s = true ↔
    s.request.timeoutTicks ≠ 0#32 ∧ s.request.timeoutTicks ≠ s.params.timeoutInfinite ∧
      s.request.timeoutTicks.toNat ≤ (s.now.toNat + (2 ^ 32 - s.startTick.toNat)) % 2 ^ 32

/-- The frame of TRANSFER and XFER's micro-operations (R140, R158, R164): no pin, no configuration, nothing of the
software engine, and the request they borrow. -/
def Obligations.TransferFrame : Prop :=
  ∀ (i : Instr) (s t : State),
    i = .transfer ∨ i = .xferReject ∨ i = .xferBegin ∨ i = .xferDone ∨ i = .xferWrite ∨ i = .xferWait ∨
      i = .xferTimeout →
    exec i s = .next t →
    t = { s with
          startTick := t.startTick
          cursor := t.cursor
          remaining := t.remaining
          xferActive := t.xferActive
          txOnly := t.txOnly
          dataRegister := t.dataRegister
          drTrace := t.drTrace
          results := t.results
          freeCount := t.freeCount }

/-- A whole call with the flag always set (R137, S5; one step an iteration by log 6, the completion test before the
poll by the spec's decision D22): from the command to the return, one step to enter, one for each of `length` bytes,
one to return. The bytes sent are the buffer's, once each and in index order, as far as it has any; past its end they
are free values (log 15). The result is Ok. -/
def Obligations.TransferHandsOffTheBuffer : Prop :=
  ∀ (s : State) (c : Command) (bytes : List Byte), s.inputs = [.command c] → c.word = 0x40000000#32 →
    c.request.buffer = some bytes → c.request.length ≠ 0 → s.xferActive = false → s.txe = true →
    ∃ (t : State) (sent : List Byte), iterate step (c.request.length + 2) s = .next t ∧
      t.drTrace = s.drTrace ++ sent ∧ sent.length = c.request.length ∧
      sent.take bytes.length = bytes.take c.request.length ∧ (c.request.length = bytes.length → sent = bytes) ∧
      t.results = s.results ++ [{ operation := .transfer, code := .ok }] ∧ t.xferActive = false ∧
      t.pinTrace = s.pinTrace

/-! The whole machine -/

/-- The invariant holds at reset. -/
def Obligations.ResetMeetsInv : Prop := Inv State.reset

/-- Every step keeps the invariant: R33's facts about EngineState, R34's about the pin space, R37's about XFER, and
the levels of SCK and chip-select (R124, R126; derivations of the spec). SCK is leading in ClockSettle, trailing in
BitComplete and between two bits, and `cpol` or trailing in Idle, in Error and before the first bit; the pins of an
engine asked to receive stand as CONFIGURE left them. -/
def Obligations.StepKeepsInv : Prop :=
  ∀ s t : State, Inv s → step s = .next t → Inv t

/-- In a state that meets the invariant a task's turn never stops the machine: no read of the buffer is outside
R52's range, and the agent's vector always has a row. -/
def Obligations.SafeTaskTurnNeverStops : Prop :=
  ∀ (s : State) (rest : List Input), Inv s → s.inputs = .taskTurn :: rest → ∃ t, step s = .next t

/-- The parameters of R6 never change, so they are parameters (R44; the model carries them in State, log 1). -/
def Obligations.ParametersNeverChange : Prop :=
  ∀ s t : State, step s = .next t → t.params = s.params

/-- What has happened stays: a step only appends to the pin trace, the data-register trace and the results (R41;
R180, "Nothing is rolled back"). -/
def Obligations.TracesOnlyGrow : Prop :=
  ∀ s t : State, step s = .next t →
    s.pinTrace <+: t.pinTrace ∧ s.drTrace <+: t.drTrace ∧ s.results <+: t.results
end

