-- ==== Sys2Proof/Laws/State.lean ====
section
/-! SUPPORT. The shared updates of State, field by field: what each leaves as it was, and what it writes. -/

namespace Sys2Proof.Machine

open Sys2Proof

/-- Two states with the same fields are the same state. -/
theorem state_ext {a b : State} (h0 : a.params = b.params) (h1 : a.configured = b.configured)
    (h2 : a.config = b.config) (h3 : a.phase = b.phase) (h4 : a.bitIndex = b.bitIndex)
    (h5 : a.shiftRegister = b.shiftRegister) (h6 : a.dataReady = b.dataReady) (h7 : a.pins = b.pins)
    (h8 : a.directions = b.directions) (h9 : a.pinTrace = b.pinTrace) (h10 : a.drTrace = b.drTrace)
    (h11 : a.submitUnit = b.submitUnit) (h12 : a.pinOperands = b.pinOperands) (h13 : a.request = b.request)
    (h14 : a.startTick = b.startTick) (h15 : a.cursor = b.cursor) (h16 : a.remaining = b.remaining)
    (h17 : a.xferActive = b.xferActive) (h18 : a.txe = b.txe) (h19 : a.dataRegister = b.dataRegister)
    (h20 : a.txOnly = b.txOnly) (h21 : a.now = b.now) (h22 : a.results = b.results)
    (h23 : a.freeCount = b.freeCount) (h24 : a.inputs = b.inputs) : a = b := by
  cases a; cases b; simp_all

/-! `pinWrite` (R53) writes the pin space and the pin trace only. -/

@[simp] theorem pinWrite_params (r : OutPin) (l : Level) (s : State) : (pinWrite r l s).params = s.params := by unfold pinWrite; split <;> rfl
@[simp] theorem pinWrite_configured (r : OutPin) (l : Level) (s : State) : (pinWrite r l s).configured = s.configured := by unfold pinWrite; split <;> rfl
@[simp] theorem pinWrite_config (r : OutPin) (l : Level) (s : State) : (pinWrite r l s).config = s.config := by unfold pinWrite; split <;> rfl
@[simp] theorem pinWrite_phase (r : OutPin) (l : Level) (s : State) : (pinWrite r l s).phase = s.phase := by unfold pinWrite; split <;> rfl
@[simp] theorem pinWrite_bitIndex (r : OutPin) (l : Level) (s : State) : (pinWrite r l s).bitIndex = s.bitIndex := by unfold pinWrite; split <;> rfl
@[simp] theorem pinWrite_shiftRegister (r : OutPin) (l : Level) (s : State) : (pinWrite r l s).shiftRegister = s.shiftRegister := by unfold pinWrite; split <;> rfl
@[simp] theorem pinWrite_dataReady (r : OutPin) (l : Level) (s : State) : (pinWrite r l s).dataReady = s.dataReady := by unfold pinWrite; split <;> rfl
@[simp] theorem pinWrite_directions (r : OutPin) (l : Level) (s : State) : (pinWrite r l s).directions = s.directions := by unfold pinWrite; split <;> rfl
@[simp] theorem pinWrite_drTrace (r : OutPin) (l : Level) (s : State) : (pinWrite r l s).drTrace = s.drTrace := by unfold pinWrite; split <;> rfl
@[simp] theorem pinWrite_submitUnit (r : OutPin) (l : Level) (s : State) : (pinWrite r l s).submitUnit = s.submitUnit := by unfold pinWrite; split <;> rfl
@[simp] theorem pinWrite_pinOperands (r : OutPin) (l : Level) (s : State) : (pinWrite r l s).pinOperands = s.pinOperands := by unfold pinWrite; split <;> rfl
@[simp] theorem pinWrite_request (r : OutPin) (l : Level) (s : State) : (pinWrite r l s).request = s.request := by unfold pinWrite; split <;> rfl
@[simp] theorem pinWrite_startTick (r : OutPin) (l : Level) (s : State) : (pinWrite r l s).startTick = s.startTick := by unfold pinWrite; split <;> rfl
@[simp] theorem pinWrite_cursor (r : OutPin) (l : Level) (s : State) : (pinWrite r l s).cursor = s.cursor := by unfold pinWrite; split <;> rfl
@[simp] theorem pinWrite_remaining (r : OutPin) (l : Level) (s : State) : (pinWrite r l s).remaining = s.remaining := by unfold pinWrite; split <;> rfl
@[simp] theorem pinWrite_xferActive (r : OutPin) (l : Level) (s : State) : (pinWrite r l s).xferActive = s.xferActive := by unfold pinWrite; split <;> rfl
@[simp] theorem pinWrite_txe (r : OutPin) (l : Level) (s : State) : (pinWrite r l s).txe = s.txe := by unfold pinWrite; split <;> rfl
@[simp] theorem pinWrite_dataRegister (r : OutPin) (l : Level) (s : State) : (pinWrite r l s).dataRegister = s.dataRegister := by unfold pinWrite; split <;> rfl
@[simp] theorem pinWrite_txOnly (r : OutPin) (l : Level) (s : State) : (pinWrite r l s).txOnly = s.txOnly := by unfold pinWrite; split <;> rfl
@[simp] theorem pinWrite_now (r : OutPin) (l : Level) (s : State) : (pinWrite r l s).now = s.now := by unfold pinWrite; split <;> rfl
@[simp] theorem pinWrite_results (r : OutPin) (l : Level) (s : State) : (pinWrite r l s).results = s.results := by unfold pinWrite; split <;> rfl
@[simp] theorem pinWrite_freeCount (r : OutPin) (l : Level) (s : State) : (pinWrite r l s).freeCount = s.freeCount := by unfold pinWrite; split <;> rfl
@[simp] theorem pinWrite_inputs (r : OutPin) (l : Level) (s : State) : (pinWrite r l s).inputs = s.inputs := by unfold pinWrite; split <;> rfl

/-- `pinWrite` appends the one event of a bound pin. -/
@[simp] theorem pinWrite_pinTrace (r : OutPin) (l : Level) (s : State) :
    (pinWrite r l s).pinTrace = s.pinTrace ++ pinEvents s.config r l := by
  unfold pinWrite pinEvents; cases s.config.pinOf r <;> simp

/-- `pinWrite` sets the level of a bound pin and no other. -/
@[simp] theorem pinWrite_pins (r : OutPin) (l : Level) (s : State) :
    (pinWrite r l s).pins = if (s.config.pinOf r).isSome then s.pins.set r l else s.pins := by
  unfold pinWrite; split <;> simp_all

/-! `drWrite` (R54) writes the data register and its trace only. -/

@[simp] theorem drWrite_params (b : Byte) (s : State) : (drWrite b s).params = s.params := rfl
@[simp] theorem drWrite_configured (b : Byte) (s : State) : (drWrite b s).configured = s.configured := rfl
@[simp] theorem drWrite_config (b : Byte) (s : State) : (drWrite b s).config = s.config := rfl
@[simp] theorem drWrite_phase (b : Byte) (s : State) : (drWrite b s).phase = s.phase := rfl
@[simp] theorem drWrite_bitIndex (b : Byte) (s : State) : (drWrite b s).bitIndex = s.bitIndex := rfl
@[simp] theorem drWrite_shiftRegister (b : Byte) (s : State) : (drWrite b s).shiftRegister = s.shiftRegister := rfl
@[simp] theorem drWrite_dataReady (b : Byte) (s : State) : (drWrite b s).dataReady = s.dataReady := rfl
@[simp] theorem drWrite_pins (b : Byte) (s : State) : (drWrite b s).pins = s.pins := rfl
@[simp] theorem drWrite_directions (b : Byte) (s : State) : (drWrite b s).directions = s.directions := rfl
@[simp] theorem drWrite_pinTrace (b : Byte) (s : State) : (drWrite b s).pinTrace = s.pinTrace := rfl
@[simp] theorem drWrite_submitUnit (b : Byte) (s : State) : (drWrite b s).submitUnit = s.submitUnit := rfl
@[simp] theorem drWrite_pinOperands (b : Byte) (s : State) : (drWrite b s).pinOperands = s.pinOperands := rfl
@[simp] theorem drWrite_request (b : Byte) (s : State) : (drWrite b s).request = s.request := rfl
@[simp] theorem drWrite_startTick (b : Byte) (s : State) : (drWrite b s).startTick = s.startTick := rfl
@[simp] theorem drWrite_cursor (b : Byte) (s : State) : (drWrite b s).cursor = s.cursor := rfl
@[simp] theorem drWrite_remaining (b : Byte) (s : State) : (drWrite b s).remaining = s.remaining := rfl
@[simp] theorem drWrite_xferActive (b : Byte) (s : State) : (drWrite b s).xferActive = s.xferActive := rfl
@[simp] theorem drWrite_txe (b : Byte) (s : State) : (drWrite b s).txe = s.txe := rfl
@[simp] theorem drWrite_txOnly (b : Byte) (s : State) : (drWrite b s).txOnly = s.txOnly := rfl
@[simp] theorem drWrite_now (b : Byte) (s : State) : (drWrite b s).now = s.now := rfl
@[simp] theorem drWrite_results (b : Byte) (s : State) : (drWrite b s).results = s.results := rfl
@[simp] theorem drWrite_freeCount (b : Byte) (s : State) : (drWrite b s).freeCount = s.freeCount := rfl
@[simp] theorem drWrite_inputs (b : Byte) (s : State) : (drWrite b s).inputs = s.inputs := rfl

@[simp] theorem drWrite_dataRegister (b : Byte) (s : State) : (drWrite b s).dataRegister = b := rfl
@[simp] theorem drWrite_drTrace (b : Byte) (s : State) : (drWrite b s).drTrace = s.drTrace ++ [b] := rfl

/-! `returnResult` (R150) writes the results only. -/

@[simp] theorem returnResult_params (op : Returning) (code : ResultCode) (s : State) : (returnResult op code s).params = s.params := rfl
@[simp] theorem returnResult_configured (op : Returning) (code : ResultCode) (s : State) : (returnResult op code s).configured = s.configured := rfl
@[simp] theorem returnResult_config (op : Returning) (code : ResultCode) (s : State) : (returnResult op code s).config = s.config := rfl
@[simp] theorem returnResult_phase (op : Returning) (code : ResultCode) (s : State) : (returnResult op code s).phase = s.phase := rfl
@[simp] theorem returnResult_bitIndex (op : Returning) (code : ResultCode) (s : State) : (returnResult op code s).bitIndex = s.bitIndex := rfl
@[simp] theorem returnResult_shiftRegister (op : Returning) (code : ResultCode) (s : State) : (returnResult op code s).shiftRegister = s.shiftRegister := rfl
@[simp] theorem returnResult_dataReady (op : Returning) (code : ResultCode) (s : State) : (returnResult op code s).dataReady = s.dataReady := rfl
@[simp] theorem returnResult_pins (op : Returning) (code : ResultCode) (s : State) : (returnResult op code s).pins = s.pins := rfl
@[simp] theorem returnResult_directions (op : Returning) (code : ResultCode) (s : State) : (returnResult op code s).directions = s.directions := rfl
@[simp] theorem returnResult_pinTrace (op : Returning) (code : ResultCode) (s : State) : (returnResult op code s).pinTrace = s.pinTrace := rfl
@[simp] theorem returnResult_drTrace (op : Returning) (code : ResultCode) (s : State) : (returnResult op code s).drTrace = s.drTrace := rfl
@[simp] theorem returnResult_submitUnit (op : Returning) (code : ResultCode) (s : State) : (returnResult op code s).submitUnit = s.submitUnit := rfl
@[simp] theorem returnResult_pinOperands (op : Returning) (code : ResultCode) (s : State) : (returnResult op code s).pinOperands = s.pinOperands := rfl
@[simp] theorem returnResult_request (op : Returning) (code : ResultCode) (s : State) : (returnResult op code s).request = s.request := rfl
@[simp] theorem returnResult_startTick (op : Returning) (code : ResultCode) (s : State) : (returnResult op code s).startTick = s.startTick := rfl
@[simp] theorem returnResult_cursor (op : Returning) (code : ResultCode) (s : State) : (returnResult op code s).cursor = s.cursor := rfl
@[simp] theorem returnResult_remaining (op : Returning) (code : ResultCode) (s : State) : (returnResult op code s).remaining = s.remaining := rfl
@[simp] theorem returnResult_xferActive (op : Returning) (code : ResultCode) (s : State) : (returnResult op code s).xferActive = s.xferActive := rfl
@[simp] theorem returnResult_txe (op : Returning) (code : ResultCode) (s : State) : (returnResult op code s).txe = s.txe := rfl
@[simp] theorem returnResult_dataRegister (op : Returning) (code : ResultCode) (s : State) : (returnResult op code s).dataRegister = s.dataRegister := rfl
@[simp] theorem returnResult_txOnly (op : Returning) (code : ResultCode) (s : State) : (returnResult op code s).txOnly = s.txOnly := rfl
@[simp] theorem returnResult_now (op : Returning) (code : ResultCode) (s : State) : (returnResult op code s).now = s.now := rfl
@[simp] theorem returnResult_freeCount (op : Returning) (code : ResultCode) (s : State) : (returnResult op code s).freeCount = s.freeCount := rfl
@[simp] theorem returnResult_inputs (op : Returning) (code : ResultCode) (s : State) : (returnResult op code s).inputs = s.inputs := rfl

@[simp] theorem returnResult_results (op : Returning) (code : ResultCode) (s : State) :
    (returnResult op code s).results = s.results ++ [{ operation := op, code := code }] := rfl

/-! `enterError` (R121) writes the phase only. -/

@[simp] theorem enterError_params (s : State) : (enterError s).params = s.params := rfl
@[simp] theorem enterError_configured (s : State) : (enterError s).configured = s.configured := rfl
@[simp] theorem enterError_config (s : State) : (enterError s).config = s.config := rfl
@[simp] theorem enterError_bitIndex (s : State) : (enterError s).bitIndex = s.bitIndex := rfl
@[simp] theorem enterError_shiftRegister (s : State) : (enterError s).shiftRegister = s.shiftRegister := rfl
@[simp] theorem enterError_dataReady (s : State) : (enterError s).dataReady = s.dataReady := rfl
@[simp] theorem enterError_pins (s : State) : (enterError s).pins = s.pins := rfl
@[simp] theorem enterError_directions (s : State) : (enterError s).directions = s.directions := rfl
@[simp] theorem enterError_pinTrace (s : State) : (enterError s).pinTrace = s.pinTrace := rfl
@[simp] theorem enterError_drTrace (s : State) : (enterError s).drTrace = s.drTrace := rfl
@[simp] theorem enterError_submitUnit (s : State) : (enterError s).submitUnit = s.submitUnit := rfl
@[simp] theorem enterError_pinOperands (s : State) : (enterError s).pinOperands = s.pinOperands := rfl
@[simp] theorem enterError_request (s : State) : (enterError s).request = s.request := rfl
@[simp] theorem enterError_startTick (s : State) : (enterError s).startTick = s.startTick := rfl
@[simp] theorem enterError_cursor (s : State) : (enterError s).cursor = s.cursor := rfl
@[simp] theorem enterError_remaining (s : State) : (enterError s).remaining = s.remaining := rfl
@[simp] theorem enterError_xferActive (s : State) : (enterError s).xferActive = s.xferActive := rfl
@[simp] theorem enterError_txe (s : State) : (enterError s).txe = s.txe := rfl
@[simp] theorem enterError_dataRegister (s : State) : (enterError s).dataRegister = s.dataRegister := rfl
@[simp] theorem enterError_txOnly (s : State) : (enterError s).txOnly = s.txOnly := rfl
@[simp] theorem enterError_now (s : State) : (enterError s).now = s.now := rfl
@[simp] theorem enterError_results (s : State) : (enterError s).results = s.results := rfl
@[simp] theorem enterError_freeCount (s : State) : (enterError s).freeCount = s.freeCount := rfl
@[simp] theorem enterError_inputs (s : State) : (enterError s).inputs = s.inputs := rfl

@[simp] theorem enterError_phase (s : State) : (enterError s).phase = .error := rfl

/-! `endTransfer` (R136, R137) ends the call, leaves `tx_only` open and hands the result over. -/

@[simp] theorem endTransfer_params (code : ResultCode) (s : State) : (endTransfer code s).params = s.params := rfl
@[simp] theorem endTransfer_configured (code : ResultCode) (s : State) : (endTransfer code s).configured = s.configured := rfl
@[simp] theorem endTransfer_config (code : ResultCode) (s : State) : (endTransfer code s).config = s.config := rfl
@[simp] theorem endTransfer_phase (code : ResultCode) (s : State) : (endTransfer code s).phase = s.phase := rfl
@[simp] theorem endTransfer_bitIndex (code : ResultCode) (s : State) : (endTransfer code s).bitIndex = s.bitIndex := rfl
@[simp] theorem endTransfer_shiftRegister (code : ResultCode) (s : State) : (endTransfer code s).shiftRegister = s.shiftRegister := rfl
@[simp] theorem endTransfer_dataReady (code : ResultCode) (s : State) : (endTransfer code s).dataReady = s.dataReady := rfl
@[simp] theorem endTransfer_pins (code : ResultCode) (s : State) : (endTransfer code s).pins = s.pins := rfl
@[simp] theorem endTransfer_directions (code : ResultCode) (s : State) : (endTransfer code s).directions = s.directions := rfl
@[simp] theorem endTransfer_pinTrace (code : ResultCode) (s : State) : (endTransfer code s).pinTrace = s.pinTrace := rfl
@[simp] theorem endTransfer_drTrace (code : ResultCode) (s : State) : (endTransfer code s).drTrace = s.drTrace := rfl
@[simp] theorem endTransfer_submitUnit (code : ResultCode) (s : State) : (endTransfer code s).submitUnit = s.submitUnit := rfl
@[simp] theorem endTransfer_pinOperands (code : ResultCode) (s : State) : (endTransfer code s).pinOperands = s.pinOperands := rfl
@[simp] theorem endTransfer_request (code : ResultCode) (s : State) : (endTransfer code s).request = s.request := rfl
@[simp] theorem endTransfer_startTick (code : ResultCode) (s : State) : (endTransfer code s).startTick = s.startTick := rfl
@[simp] theorem endTransfer_cursor (code : ResultCode) (s : State) : (endTransfer code s).cursor = s.cursor := rfl
@[simp] theorem endTransfer_remaining (code : ResultCode) (s : State) : (endTransfer code s).remaining = s.remaining := rfl
@[simp] theorem endTransfer_txe (code : ResultCode) (s : State) : (endTransfer code s).txe = s.txe := rfl
@[simp] theorem endTransfer_dataRegister (code : ResultCode) (s : State) : (endTransfer code s).dataRegister = s.dataRegister := rfl
@[simp] theorem endTransfer_now (code : ResultCode) (s : State) : (endTransfer code s).now = s.now := rfl
@[simp] theorem endTransfer_inputs (code : ResultCode) (s : State) : (endTransfer code s).inputs = s.inputs := rfl

@[simp] theorem endTransfer_xferActive (code : ResultCode) (s : State) :
    (endTransfer code s).xferActive = false := rfl
@[simp] theorem endTransfer_results (code : ResultCode) (s : State) :
    (endTransfer code s).results = s.results ++ [{ operation := .transfer, code := code }] := rfl

/-! `shiftOut` (R116, R117) writes the shift register, the phase, the pin space and the pin trace only. -/

@[simp] theorem shiftOut_params (s : State) : (shiftOut s).params = s.params := by simp [shiftOut]
@[simp] theorem shiftOut_configured (s : State) : (shiftOut s).configured = s.configured := by simp [shiftOut]
@[simp] theorem shiftOut_config (s : State) : (shiftOut s).config = s.config := by simp [shiftOut]
@[simp] theorem shiftOut_bitIndex (s : State) : (shiftOut s).bitIndex = s.bitIndex := by simp [shiftOut]
@[simp] theorem shiftOut_dataReady (s : State) : (shiftOut s).dataReady = s.dataReady := by simp [shiftOut]
@[simp] theorem shiftOut_directions (s : State) : (shiftOut s).directions = s.directions := by simp [shiftOut]
@[simp] theorem shiftOut_drTrace (s : State) : (shiftOut s).drTrace = s.drTrace := by simp [shiftOut]
@[simp] theorem shiftOut_submitUnit (s : State) : (shiftOut s).submitUnit = s.submitUnit := by simp [shiftOut]
@[simp] theorem shiftOut_pinOperands (s : State) : (shiftOut s).pinOperands = s.pinOperands := by simp [shiftOut]
@[simp] theorem shiftOut_request (s : State) : (shiftOut s).request = s.request := by simp [shiftOut]
@[simp] theorem shiftOut_startTick (s : State) : (shiftOut s).startTick = s.startTick := by simp [shiftOut]
@[simp] theorem shiftOut_cursor (s : State) : (shiftOut s).cursor = s.cursor := by simp [shiftOut]
@[simp] theorem shiftOut_remaining (s : State) : (shiftOut s).remaining = s.remaining := by simp [shiftOut]
@[simp] theorem shiftOut_xferActive (s : State) : (shiftOut s).xferActive = s.xferActive := by simp [shiftOut]
@[simp] theorem shiftOut_txe (s : State) : (shiftOut s).txe = s.txe := by simp [shiftOut]
@[simp] theorem shiftOut_dataRegister (s : State) : (shiftOut s).dataRegister = s.dataRegister := by simp [shiftOut]
@[simp] theorem shiftOut_txOnly (s : State) : (shiftOut s).txOnly = s.txOnly := by simp [shiftOut]
@[simp] theorem shiftOut_now (s : State) : (shiftOut s).now = s.now := by simp [shiftOut]
@[simp] theorem shiftOut_results (s : State) : (shiftOut s).results = s.results := by simp [shiftOut]
@[simp] theorem shiftOut_freeCount (s : State) : (shiftOut s).freeCount = s.freeCount := by simp [shiftOut]
@[simp] theorem shiftOut_inputs (s : State) : (shiftOut s).inputs = s.inputs := by simp [shiftOut]

@[simp] theorem shiftOut_phase (s : State) : (shiftOut s).phase = .clockSettle := rfl
@[simp] theorem shiftOut_shiftRegister (s : State) :
    (shiftOut s).shiftRegister = s.shiftRegister >>> 1 := by simp [shiftOut]

/-- SetupBit drives SCK to its leading level. -/
@[simp] theorem shiftOut_sck (s : State) :
    (shiftOut s).pins.sck = some (leadLevel s.params s.config.cpol s.config.cpha) := by
  simp [shiftOut, SpiConfig.pinOf, PinSpace.set]

/-- SetupBit drives MOSI, where it is bound, to the low bit of the shift register. -/
@[simp] theorem shiftOut_mosi (s : State) :
    (shiftOut s).pins.mosi =
      if s.config.mosiPin.isSome then some (s.shiftRegister.getLsbD 0) else s.pins.mosi := by
  cases h : s.config.mosiPin <;> simp [shiftOut, SpiConfig.pinOf, PinSpace.set, h]

/-- SetupBit proper leaves chip-select alone. -/
@[simp] theorem shiftOut_cs (s : State) : (shiftOut s).pins.cs = s.pins.cs := by
  cases h : s.config.mosiPin <;> simp [shiftOut, SpiConfig.pinOf, PinSpace.set, h]

/-- SetupBit writes MOSI, then SCK. -/
@[simp] theorem shiftOut_pinTrace (s : State) :
    (shiftOut s).pinTrace = s.pinTrace ++ pinEvents s.config .mosi (s.shiftRegister.getLsbD 0) ++
      pinEvents s.config .sck (leadLevel s.params s.config.cpol s.config.cpha) := by
  simp [shiftOut]

end Sys2Proof.Machine
end

