-- ==== Sys2Proof/Laws/Ops.lean ====
section
/-! SUPPORT. What each shared operation can do, said once: the guards of the micro-operations, the row a SEQV
vector selects, and the cases of a step. -/

namespace Sys2Proof.Machine

open Sys2Proof

/-- A word of the CMD format has no bit above the format's width: its decoder is `decodeCmd`. -/
theorem decode_cmd (w : Word) : decode .cmd w = decodeCmd w := by
  unfold decode
  exact if_neg (Nat.not_le.2 w.isLt)

/-- No vector matches two rows of the SEQV table (R75). -/
theorem seqvRows_disjoint :
    seqvRows.Pairwise fun a b => ∀ v : BitVec 8, ¬ (a.hits v = true ∧ b.hits v = true) := by
  decide

/-- The row a vector of the given fields selects, read from R111. -/
def selected (x : Bool) (p : Phase) (r f : Bool) (cc : BitVec 2) : Option SeqOp :=
  if x then some .errEnter
  else
    match p with
    | .error => some .errHold
    | .idle => if r then some .idleStart else some .idleHold
    | .setupBit => if f then some .setupFirst else some .setupNext
    | .clockSettle => some .settle
    | .bitComplete => if cc = 0#2 then some .completeNext else if cc = 1#2 then some .completeLast else none

/-- The table of R75 selects what the dispatch of R111 says, on every vector SEQ can form. -/
theorem decodeSeqv_fields (x : Bool) (p : Phase) (r f : Bool) (cc : BitVec 2) :
    decodeSeqv (BitVec.ofBool x ++ p.code ++ BitVec.ofBool r ++ BitVec.ofBool f ++ cc) = selected x p r f cc := by
  cases x <;> cases p <;> cases r <;> cases f <;> revert cc <;> decide

/-- What SEQ selects in a state. -/
theorem decodeSeqv_seqv (s : State) :
    decodeSeqv (seqv s) =
      selected (!s.config.transmitOnly) s.phase s.dataReady (s.bitIndex == 0#4) (compareField s) :=
  decodeSeqv_fields ..

/-- SUBV has a row for each value of the flag (R76). -/
@[simp] theorem decodeSubv_subv (s : State) :
    decodeSubv (subv s) = some (if s.dataReady then .wait else .load) := by
  unfold subv; cases s.dataReady <;> rfl

/-- XENT has a row for each answer of the argument check (R77). -/
@[simp] theorem decodeXent_xent (s : State) :
    decodeXent (xent s) = some (if s.request.buffer.isNone || s.request.length == 0 then .reject else .begin) := by
  unfold xent; cases (s.request.buffer.isNone || s.request.length == 0) <;> rfl

/-- XLOOP selects by completion, then the flag, then the deadline (R133, R156 (c)). -/
@[simp] theorem decodeXloop_xloop (s : State) :
    decodeXloop (xloop s) =
      some (if s.remaining = 0 then .done else if s.txe then .write
        else if deadlinePassed s then .timeout else .wait) := by
  unfold xloop; split
  · rfl
  · cases s.txe <;> cases deadlinePassed s <;> rfl

/-- `BufRead` inside the buffer and below `length` is the buffer's byte (R52). -/
theorem bufRead_of_getElem? {r : TransferRequest} {bytes : List Byte} {free b : Byte} {i : Nat}
    (hb : r.buffer = some bytes) (hi : i < r.length) (h : bytes[i]? = some b) :
    bufRead r free i = some b ∧ bufHolds r i = true := by
  obtain ⟨hl, hv⟩ := List.getElem?_eq_some_iff.1 h
  simp [bufRead, bufHolds, hb, hi, hl, hv]

/-- `BufRead` past the buffer's bytes and below `length` is the free value (log 15). -/
theorem bufRead_of_length_le {r : TransferRequest} {bytes : List Byte} {free : Byte} {i : Nat}
    (hb : r.buffer = some bytes) (hi : i < r.length) (h : bytes.length ≤ i) :
    bufRead r free i = some free ∧ bufHolds r i = false := by
  simp [bufRead, bufHolds, hb, hi, Nat.not_lt.2 h]

/-- `BufRead` answers no byte exactly outside R52's range. -/
theorem bufRead_eq_none {r : TransferRequest} {free : Byte} {i : Nat} :
    bufRead r free i = none ↔ r.buffer = none ∨ r.length ≤ i := by
  cases h : r.buffer <;> simp [bufRead, h]

/-- A SEQ micro-operation completes exactly when the engine is configured and SEQV selects it. -/
theorem seqMicro_next {op : SeqOp} {s t u : State} :
    seqMicro op s t = .next u ↔ s.configured = true ∧ decodeSeqv (seqv s) = some op ∧ t = u := by
  unfold seqMicro
  cases s.configured <;> by_cases h : decodeSeqv (seqv s) = some op <;> simp_all

/-- A SUB micro-operation completes exactly when a SUBMIT is in progress on a configured engine and SUBV selects
it. -/
theorem subMicro_next {op : SubOp} {s u : State} {act : UnitWord → State} :
    subMicro op s act = .next u ↔ s.configured = true ∧ decodeSubv (subv s) = some op ∧
      ∃ unit, s.submitUnit = some unit ∧ act unit = u := by
  unfold subMicro
  cases s.configured <;> cases s.submitUnit <;> by_cases h : decodeSubv (subv s) = some op <;> simp_all

/-- An XFER loop micro-operation answers next exactly when a TRANSFER is in progress, XLOOP selects it and its
effect does. -/
theorem loopMicro_next {op : LoopOp} {s u : State} {a : Answer} :
    loopMicro op s a = .next u ↔ s.xferActive = true ∧ decodeXloop (xloop s) = some op ∧ a = .next u := by
  unfold loopMicro
  cases s.xferActive <;> by_cases h : decodeXloop (xloop s) = some op <;> simp_all

/-- STEP is the micro-operation SEQ selects (R111). -/
theorem execStep_eq {s : State} {op : SeqOp} (hc : s.configured = true) (h : decodeSeqv (seqv s) = some op) :
    exec .step s = exec op.toInstr s := by
  simp only [exec, execStep, hc, h]
  cases op <;> rfl

/-- A task's turn is one micro-operation of the agent inside this block, or nothing. -/
theorem runTask_cases {s t : State} (h : runTask s = .next t) :
    (s.xferActive = true ∧ ∃ op : LoopOp, exec op.toInstr s = .next t) ∨
      (s.xferActive = false ∧ ∃ op : SubOp, exec op.toInstr s = .next t) ∨ s = t := by
  unfold runTask at h
  split at h
  case isTrue hx => simp only [decodeXloop_xloop] at h; exact .inl ⟨hx, _, h⟩
  case isFalse hx =>
    split at h
    · simp only [decodeSubv_subv] at h; exact .inr (.inl ⟨by simpa using hx, _, h⟩)
    · simp only [Host.Outcome.next.injEq] at h; exact .inr (.inr h)

/-- Everything one step can do: an input of the environment, a task's turn, or a command's instruction. -/
theorem step_cases {s t : State} (h : step s = .next t) :
    (∃ rest flag, t = { s with txe := flag, inputs := rest }) ∨
      (∃ rest tick, t = { s with now := tick, inputs := rest }) ∨
      (∃ rest, runTask { s with inputs := rest } = .next t) ∨
      (∃ rest c i, decodeCmd c.word = .ok i ∧ (s.xferActive = true → i.fromTask = false) ∧
        exec i (stage i c { s with inputs := rest }) = .next t) := by
  unfold step runNext at h
  split at h
  case h_1 he => exact .inr (.inr (.inl ⟨[], by rw [← h, ← he]⟩))
  case h_2 c rest he =>
    split at h
    · exact .inr (.inr (.inl ⟨s.inputs, h⟩))
    case isFalse hw =>
      unfold runCommand at h
      cases hd : decodeCmd c.word with
      | error r => simp [hd] at h
      | ok i =>
        refine .inr (.inr (.inr ⟨rest, c, i, hd, fun hx => ?_, by simpa [hd] using h⟩))
        simpa [mustWait, hx, hd] using hw
  case h_3 rest he => exact .inr (.inr (.inl ⟨rest, h⟩))
  case h_4 flag rest he => simp only [Host.Outcome.next.injEq] at h; exact .inl ⟨rest, flag, h.symm⟩
  case h_5 tick rest he => simp only [Host.Outcome.next.injEq] at h; exact .inr (.inl ⟨rest, tick, h.symm⟩)

/-- A run of `m + n` applications is one of `m` and then one of `n`. -/
theorem iterate_add {f : State → Answer} {m n : Nat} {s t : State} (h : iterate f m s = .next t) :
    iterate f (m + n) s = iterate f n t := by
  induction m generalizing s with
  | zero => simp only [iterate, Host.Outcome.next.injEq] at h; subst h; simp
  | succ m ih =>
    rw [Nat.succ_add]
    simp only [iterate] at h ⊢
    cases hf : f s with
    | next u => simp only [hf] at h ⊢; exact ih h
    | fault r => simp [hf] at h
    | refused r => simp [hf] at h

end Sys2Proof.Machine
end

