-- ==== Sys2Proof/Laws/PerInstr.lean ====
section
/-! SUPPORT. Statements about every instruction as syntax, one lemma per constructor. The family RowMatches: the
encoding of an instruction matches the `match` and `mask` of its row in spec/opcode_table.json and no bit lies
above its format's width. -/

namespace Sys2Proof.Laws.RowMatches

open Sys2Proof

/-- A word has the pattern of a row under its mask, in a format of the given width. -/
def inRow (pattern mask : Word) (bits : Nat) (w : Word) : Prop :=
  w &&& mask = pattern ∧ w.toNat < 2 ^ bits

/-- The encoding of an instruction lies in its row of the opcode table. -/
def Statement : Instr → Prop
  | .configure cfg => inRow 0x10000000#32 0xFFFFF000#32 32 (encode (.configure cfg))
  | .submit unit => inRow 0x20000000#32 0xFFFF0000#32 32 (encode (.submit unit))
  | .step => inRow 0x30000000#32 0xFFFFFFFF#32 32 (encode .step)
  | .transfer => inRow 0x40000000#32 0xFFFFFFFF#32 32 (encode .transfer)
  | .seqErrEnter => inRow 0x80#32 0x80#32 8 (encode .seqErrEnter)
  | .seqErrHold => inRow 0x40#32 0xF0#32 8 (encode .seqErrHold)
  | .seqIdleHold => inRow 0x00#32 0xF8#32 8 (encode .seqIdleHold)
  | .seqIdleStart => inRow 0x08#32 0xF8#32 8 (encode .seqIdleStart)
  | .seqSetupFirst => inRow 0x14#32 0xF4#32 8 (encode .seqSetupFirst)
  | .seqSetupNext => inRow 0x10#32 0xF4#32 8 (encode .seqSetupNext)
  | .seqSettle => inRow 0x20#32 0xF0#32 8 (encode .seqSettle)
  | .seqCompleteNext => inRow 0x30#32 0xF3#32 8 (encode .seqCompleteNext)
  | .seqCompleteLast => inRow 0x31#32 0xF3#32 8 (encode .seqCompleteLast)
  | .subWait => inRow 0x1#32 0x1#32 1 (encode .subWait)
  | .subLoad => inRow 0x0#32 0x1#32 1 (encode .subLoad)
  | .xferReject => inRow 0x1#32 0x1#32 1 (encode .xferReject)
  | .xferBegin => inRow 0x0#32 0x1#32 1 (encode .xferBegin)
  | .xferDone => inRow 0x4#32 0x4#32 3 (encode .xferDone)
  | .xferWrite => inRow 0x2#32 0x6#32 3 (encode .xferWrite)
  | .xferWait => inRow 0x0#32 0x7#32 3 (encode .xferWait)
  | .xferTimeout => inRow 0x1#32 0x7#32 3 (encode .xferTimeout)

/-- A prefix under a mask of ones over the prefix and zeros below it is the prefix over zeros. -/
theorem append_and_mask {m n : Nat} (a : BitVec m) (b : BitVec n) :
    (a ++ b) &&& (BitVec.allOnes m ++ 0#n) = a ++ 0#n := by
  ext i hi
  simp only [BitVec.getElem_and, BitVec.getElem_append]
  split <;> simp

theorem configure (cfg : Cfg) : Statement (.configure cfg) := by
  refine ⟨?_, (encode (.configure cfg)).isLt⟩
  exact append_and_mask 0x10000#20 (encodeCfg cfg)

theorem submit (unit : UnitWord) : Statement (.submit unit) := by
  refine ⟨?_, (encode (.submit unit)).isLt⟩
  exact append_and_mask 0x2000#16 unit

theorem step : Statement .step := ⟨rfl, by decide⟩
theorem transfer : Statement .transfer := ⟨rfl, by decide⟩
theorem seqErrEnter : Statement .seqErrEnter := ⟨rfl, by decide⟩
theorem seqErrHold : Statement .seqErrHold := ⟨rfl, by decide⟩
theorem seqIdleHold : Statement .seqIdleHold := ⟨rfl, by decide⟩
theorem seqIdleStart : Statement .seqIdleStart := ⟨rfl, by decide⟩
theorem seqSetupFirst : Statement .seqSetupFirst := ⟨rfl, by decide⟩
theorem seqSetupNext : Statement .seqSetupNext := ⟨rfl, by decide⟩
theorem seqSettle : Statement .seqSettle := ⟨rfl, by decide⟩
theorem seqCompleteNext : Statement .seqCompleteNext := ⟨rfl, by decide⟩
theorem seqCompleteLast : Statement .seqCompleteLast := ⟨rfl, by decide⟩
theorem subWait : Statement .subWait := ⟨rfl, by decide⟩
theorem subLoad : Statement .subLoad := ⟨rfl, by decide⟩
theorem xferReject : Statement .xferReject := ⟨rfl, by decide⟩
theorem xferBegin : Statement .xferBegin := ⟨rfl, by decide⟩
theorem xferDone : Statement .xferDone := ⟨rfl, by decide⟩
theorem xferWrite : Statement .xferWrite := ⟨rfl, by decide⟩
theorem xferWait : Statement .xferWait := ⟨rfl, by decide⟩
theorem xferTimeout : Statement .xferTimeout := ⟨rfl, by decide⟩

end Sys2Proof.Laws.RowMatches
end

