-- ==== Sys2Proof/Tests/Slice0.lean ====
section
/-! SUPPORT. Tests whose expected results come from spec/95_test_vectors.md and from the examples of the rules, and
one named witness for the hypotheses of each statement. -/

namespace Sys2Proof.Tests

open Sys2Proof Sys2Proof.Machine

/-! Helpers: how an answer is read, and the states the vectors start from. -/

/-- The next state of an answer. -/
def after : Answer → Option State
  | .next t => some t
  | .fault _ => none
  | .refused _ => none

/-- The refusal of an answer. -/
def refusal : Answer → Option Refusal
  | .next _ => none
  | .fault _ => none
  | .refused r => some r

/-- The fault of an answer. -/
def faultOf : Answer → Option Fault
  | .next _ => none
  | .fault r => some r
  | .refused _ => none

/-- CONFIGURE's operand in K1: mode 0, width 8, MSB-first, transmit-only, SCK, MOSI and CS bound. -/
def cfgK1 : Cfg :=
  { cpol := 0#2, cpha := 0#2, width := .w8, order := .msbFirst, dir := 0#2, sckPresent := true,
    mosiPresent := true, misoPresent := false, csPresent := true }

/-- The engine after K1: SCK 0, MOSI 0, CS 1, Idle. Pins 0, 1 and 3 stand for P1, P2 and P3. -/
def engine : State :=
  { State.reset with
    configured := true
    config :=
      { cpol := false, cpha := false, width := .w8, order := .msbFirst, dir := 0#2, sckPin := 0,
        mosiPin := some 1, misoPin := none, csPin := some 3 }
    pins := { sck := some false, mosi := some false, cs := some true } }

/-- V1 after SUBMIT 0x00A3. -/
def loaded : State := { engine with shiftRegister := 0x00C5#16, dataReady := true }

/-- V1 after STEP 1. -/
def setup : State := { loaded with phase := .setupBit }

/-- V1 after STEP 2. -/
def settling : State :=
  { loaded with
    phase := .clockSettle
    shiftRegister := 0x0062#16
    pins := { sck := some false, mosi := some true, cs := some false } }

/-- V1 after STEP 3. -/
def completing : State :=
  { settling with phase := .bitComplete, pins := { sck := some true, mosi := some true, cs := some false } }

/-- V1 after STEP 24: the last bit stands on MOSI. -/
def completingLast : State := { completing with bitIndex := 7#4, shiftRegister := 0#16 }

/-- The engine after K7: asked to receive. -/
def receiver : State := { engine with config := { engine.config with dir := 1#2 } }

/-- The engine of `loaded` with a SUBMIT of 0x00F0 waiting. -/
def waiting : State := { loaded with submitUnit := some 0x00F0#16 }

/-- The same SUBMIT once the flag is clear. -/
def granted : State := { engine with submitUnit := some 0x00F0#16 }

/-- The TransferRequest of X1. -/
def requestX1 : TransferRequest :=
  { buffer := some [0x11#8, 0x22#8, 0x33#8], length := 3, timeoutTicks := 100#32, peripheral := 0 }

/-- A TRANSFER of X1 about to be entered. -/
def calling : State := { State.reset with request := requestX1 }

/-- A TRANSFER of X1 after its first byte, in the middle of the buffer. -/
def sending : State :=
  { calling with cursor := 1, remaining := 2, xferActive := true, txOnly := true, drTrace := [0x11#8] }

/-- A TRANSFER of one byte with timeout 5, entered at tick 100, as in R135's example. -/
def polling : State :=
  { State.reset with
    request := { buffer := some [0x01#8], length := 1, timeoutTicks := 5#32, peripheral := 0 }
    startTick := 100#32
    cursor := 0
    remaining := 1
    xferActive := true
    txOnly := true
    now := 104#32 }

/-- Identifiers that bind SCK and CS to one pin. -/
def sharedPins : PinOperands := { sck := 5, mosi := 6, miso := 7, cs := 5 }

/-- A command of the given word, beside it the operands of P1. -/
def commandOf (w : Word) : Command :=
  { word := w, pins := State.reset.pinOperands, request := requestX1 }

/-! Ill-formed operands, each refused by its check. -/

theorem test_wellFormed_accepts : (Instr.configure cfgK1).wellFormed = true := by decide
theorem test_illFormed_request_length :
    TransferRequest.wellFormed { requestX1 with length := 4 } = false := by decide
theorem test_wellFormed_request_absent : TransferRequest.wellFormed { requestX1 with buffer := none } = true := by
  decide
theorem test_illFormed_polarity : Cfg.valid { cfgK1 with cpol := 2#2 } = false := by decide
theorem test_illFormed_phase : Cfg.valid { cfgK1 with cpha := 3#2 } = false := by decide
theorem test_illFormed_no_clock : Cfg.valid { cfgK1 with sckPresent := false } = false := by decide
theorem test_illFormed_pins : cfgK1.pinsDistinct { sck := 5, mosi := 5, miso := 6, cs := 7 } = false := by decide
theorem test_wellFormed_absent_pin_free :
    cfgK1.pinsDistinct { sck := 5, mosi := 6, miso := 5, cs := 7 } = true := by decide

/-! Decoding: one word for each constructor, its bits written out from R71, R72, R75, R76 and R77. -/

/-- K2's word: `0001`, zeros, then CS 1, MISO 0, MOSI 1, SCK 1, DIR 00, ORDER 1, WIDTH 1, CPHA 01, CPOL 01. -/
theorem test_decode_configure :
    decode .cmd 0b00010000000000000000101100110101#32 = .ok (.configure
      { cpol := 1#2, cpha := 1#2, width := .w16, order := .lsbFirst, dir := 0#2, sckPresent := true,
        mosiPresent := true, misoPresent := false, csPresent := true }) := by decide
/-- K6's neighbours: CPOL 2, CPHA 3, DIR 2, only MISO bound. -/
theorem test_decode_configure_fields :
    decode .cmd 0b00010000000000000000010010001110#32 = .ok (.configure
      { cpol := 2#2, cpha := 3#2, width := .w8, order := .msbFirst, dir := 2#2, sckPresent := false,
        mosiPresent := false, misoPresent := true, csPresent := false }) := by decide
/-- K1's word. -/
theorem test_decode_configure_k1 : decode .cmd 0x10000B00#32 = .ok (.configure cfgK1) := by decide
/-- V1's SUBMIT. -/
theorem test_decode_submit : decode .cmd 0b00100000000000000000000010100011#32 = .ok (.submit 0x00A3#16) := by
  decide
theorem test_decode_step : decode .cmd 0b00110000000000000000000000000000#32 = .ok .step := by decide
theorem test_decode_transfer : decode .cmd 0b01000000000000000000000000000000#32 = .ok .transfer := by decide
/-- `1 000 0 1 00`, V6's first STEP. -/
theorem test_decode_errEnter : decode .seqv 0b10000100#32 = .ok .seqErrEnter := by decide
/-- `0 100 0 1 00`. -/
theorem test_decode_errHold : decode .seqv 0b01000100#32 = .ok .seqErrHold := by decide
/-- `0 000 0 0 01`, V1's STEP 26. -/
theorem test_decode_idleHold : decode .seqv 0b00000001#32 = .ok .seqIdleHold := by decide
/-- `0 000 1 1 00`, V1's STEP 1. -/
theorem test_decode_idleStart : decode .seqv 0b00001100#32 = .ok .seqIdleStart := by decide
/-- `0 001 1 1 00`, V1's STEP 2. -/
theorem test_decode_setupFirst : decode .seqv 0b00011100#32 = .ok .seqSetupFirst := by decide
/-- `0 001 1 0 01`, V1's STEP 23. -/
theorem test_decode_setupNext : decode .seqv 0b00011001#32 = .ok .seqSetupNext := by decide
/-- `0 010 1 0 00`, V1's STEP 6. -/
theorem test_decode_settle : decode .seqv 0b00101000#32 = .ok .seqSettle := by decide
/-- `0 011 1 0 00`, V1's STEP 7. -/
theorem test_decode_completeNext : decode .seqv 0b00111000#32 = .ok .seqCompleteNext := by decide
/-- `0 011 1 0 01`, V1's STEP 25. -/
theorem test_decode_completeLast : decode .seqv 0b00111001#32 = .ok .seqCompleteLast := by decide
theorem test_decode_subWait : decode .subv 0b1#32 = .ok .subWait := by decide
theorem test_decode_subLoad : decode .subv 0b0#32 = .ok .subLoad := by decide
theorem test_decode_xferReject : decode .xent 0b1#32 = .ok .xferReject := by decide
theorem test_decode_xferBegin : decode .xent 0b0#32 = .ok .xferBegin := by decide
/-- `1 t e`. -/
theorem test_decode_xferDone : decode .xloop 0b111#32 = .ok .xferDone := by decide
/-- `0 1 e`. -/
theorem test_decode_xferWrite : decode .xloop 0b011#32 = .ok .xferWrite := by decide
theorem test_decode_xferWait : decode .xloop 0b000#32 = .ok .xferWait := by decide
theorem test_decode_xferTimeout : decode .xloop 0b001#32 = .ok .xferTimeout := by decide

/-- R80: reserved operation codes 0, 5 and 15. -/
theorem test_reject_op : decode .cmd 0x00000000#32 = .error .reservedOp ∧
    decode .cmd 0x50000000#32 = .error .reservedOp ∧ decode .cmd 0xF0000000#32 = .error .reservedOp := by decide
/-- R80: bits that must be 0, and bits above a vector's width. -/
theorem test_reject_zero : decode .cmd 0x10010B00#32 = .error .mustBeZero ∧
    decode .cmd 0x10001B00#32 = .error .mustBeZero ∧ decode .cmd 0x28000000#32 = .error .mustBeZero ∧
    decode .cmd 0x30000001#32 = .error .mustBeZero ∧ decode .cmd 0x40008000#32 = .error .mustBeZero ∧
    decode .xloop 0x8#32 = .error .mustBeZero := by decide
/-- R80: phase codes 5 and 7, and BitComplete with `cc` 2. -/
theorem test_reject_vector : decode .seqv 0x50#32 = .error .noRow ∧ decode .seqv 0x7F#32 = .error .noRow ∧
    decode .seqv 0x32#32 = .error .noRow := by decide

/-! The functions of R101, R104, R112, R113, R138 and R139. -/

/-- V7. -/
theorem test_reverseBits :
    reverseBits 0x01#16 .w8 = 0x80#16 ∧ reverseBits 0xA3#16 .w8 = 0xC5#16 ∧ reverseBits 0x5A#16 .w8 = 0x5A#16 ∧
      reverseBits 0x12A3#16 .w8 = 0xC5#16 ∧ reverseBits 0x0001#16 .w16 = 0x8000#16 ∧
      reverseBits 0x00FF#16 .w16 = 0xFF00#16 ∧ reverseBits 0x1234#16 .w16 = 0x2C48#16 := by decide

/-- The rows of R104's table. -/
theorem test_wireValue :
    wireValue engine.config 0x12A3#16 = 0x00C5#16 ∧
      wireValue { engine.config with order := .lsbFirst } 0x12A3#16 = 0x00A3#16 ∧
      wireValue { engine.config with width := .w16 } 0x1234#16 = 0x2C48#16 ∧
      wireValue { engine.config with width := .w16, order := .lsbFirst } 0x1234#16 = 0x1234#16 := by decide

/-- V2's column lead / trail, and the GLOSS and STANDARD columns of R112's row `1 0`. -/
theorem test_levels :
    leadLevel Params.default false true = true ∧ trailLevel Params.default false true = false ∧
      leadLevel Params.default true false = false ∧ trailLevel Params.default true false = true ∧
      leadLevel { Params.default with leadRule := .gloss } true false = true ∧
      leadLevel { Params.default with leadRule := .standard } true false = true := by decide

/-- X8's wrap: elapsed 4 and 5 across the roll-over, timeout 5; X3b: the sentinel never passes. -/
theorem test_deadline :
    deadlinePassed { polling with startTick := 0xFFFFFFFE#32, now := 0x00000002#32 } = false ∧
      deadlinePassed { polling with startTick := 0xFFFFFFFE#32, now := 0x00000003#32 } = true ∧
      deadlinePassed { polling with
        request := { polling.request with timeoutTicks := 0xFFFFFFFF#32 }
        startTick := 0#32, now := 0xFFFFFFFF#32 } = false := by decide

/-- The vectors of V1's STEPs 1, 2, 3, 4 and 25, and of V6's second STEP. -/
theorem test_seqv :
    seqv loaded = 0x0C#8 ∧ seqv setup = 0x1C#8 ∧ seqv settling = 0x2C#8 ∧ seqv completing = 0x3C#8 ∧
      seqv completingLast = 0x39#8 ∧ seqv { receiver with phase := .error } = 0xC4#8 := by decide

/-! One step of each instruction. -/

/-- K8: with `CS_ACTIVE_LEVEL` 1 chip-select is deasserted low; the order is SCK, CS, MOSI. -/
theorem test_configure_k8 :
    (after (exec (.configure cfgK1)
      { State.reset with params := { Params.default with csActiveLevel := true } })).map
        (fun t => (t.pinTrace.map (fun e => (e.role, e.level)), t.configured, t.phase)) =
      some ([(.sck, false), (.cs, false), (.mosi, false)], true, .idle) := by decide
/-- K4 on a configured engine: InvalidConfiguration, and nothing else. -/
theorem test_configure_k4 :
    after (exec (.configure { cfgK1 with cpol := 2#2 }) setup) =
      some { setup with results := [{ operation := .configure, code := .invalidConfiguration }] } := by decide
/-- R104's example: SUBMIT 0x00A3 loads 0x00C5. -/
theorem test_submit_load : after (exec (.submit 0x00A3#16) engine) = some loaded := by decide
/-- R102's example: in ClockSettle SUBMIT 0x55 leaves the shift register as it is. -/
theorem test_submit_wait :
    (after (exec (.submit 0x0055#16) settling)).map (fun t => (t.shiftRegister, t.submitUnit)) =
      some (0x0062#16, some 0x0055#16) := by decide
/-- V1's STEP 2. -/
theorem test_step_setup :
    (after (exec .step setup)).map (fun t => (t.pinTrace.map (fun e => (e.pin, e.level)), t.shiftRegister)) =
      some ([(3, false), (1, true), (0, false)], 0x0062#16) := by decide
/-- V6's STEP 1. -/
theorem test_step_receive : after (exec .step receiver) = some { receiver with phase := .error } := by decide
/-- X1's entry. -/
theorem test_transfer_begin :
    (after (exec .transfer calling)).map (fun t => (t.xferActive, t.remaining, t.cursor, t.txOnly)) =
      some (true, 3, 0, true) := by decide
/-- X5: an absent buffer with length 3. -/
theorem test_transfer_reject :
    after (exec .transfer { calling with request := { requestX1 with buffer := none } }) =
      some { calling with
        request := { requestX1 with buffer := none }
        results := [{ operation := .transfer, code := .invalidArgument }] } := by decide
/-- V6: Error is entered from any phase, with no pin written. -/
theorem test_errEnter :
    after (exec .seqErrEnter { receiver with phase := .bitComplete }) = some { receiver with phase := .error } := by
  decide
theorem test_errHold :
    after (exec .seqErrHold { engine with phase := .error }) = some { engine with phase := .error } := by decide
/-- V8: SCK at 1 returns to `cpol`. -/
theorem test_idleHold :
    (after (exec .seqIdleHold { engine with pins := { engine.pins with sck := some true } })).map
        (fun t => (t.pins.sck, t.pinTrace.length, t.phase)) = some (some false, 1, .idle) := by decide
/-- R115's example, from an index that is not 0. -/
theorem test_idleStart :
    after (exec .seqIdleStart { loaded with bitIndex := 7#4 }) = some setup := by decide
/-- V8: no CS pin, so no CS write. -/
theorem test_setupFirst_no_cs :
    (after (exec .seqSetupFirst { setup with config := { setup.config with csPin := none } })).map
        (fun t => (t.pinTrace.map (fun e => e.role), t.phase)) = some ([.mosi, .sck], .clockSettle) := by decide
/-- V8: with `CS_ACTIVE_LEVEL` 1, `CS<-1` first. -/
theorem test_setupFirst_active_high :
    (after (exec .seqSetupFirst { setup with params := { Params.default with csActiveLevel := true } })).map
        (fun t => (t.pins.cs, t.pinTrace.head?.map (fun e => e.level))) = some (some true, some true) := by decide
/-- R117's example. -/
theorem test_setupNext :
    (after (exec .seqSetupNext { completing with phase := .setupBit, bitIndex := 1#4 })).map
        (fun t => (t.shiftRegister, t.pinTrace.map (fun e => (e.role, e.level)))) =
      some (0x0031#16, [(.mosi, false), (.sck, false)]) := by decide
/-- V4: the bit is consumed though no pin shows it. -/
theorem test_setupNext_no_mosi :
    (after (exec .seqSetupNext
      { setup with bitIndex := 2#4, config := { setup.config with mosiPin := none } })).map
        (fun t => (t.shiftRegister, t.pinTrace.map (fun e => e.role))) = some (0x0062#16, [.sck]) := by decide
/-- V1's STEP 3. -/
theorem test_settle :
    (after (exec .seqSettle settling)).map (fun t => (t.pins, t.phase)) =
      some (completing.pins, .bitComplete) := by decide
/-- V8's rows for `bit_index` 6 at width 8 and 7 at width 16. -/
theorem test_completeNext :
    (after (exec .seqCompleteNext { completing with bitIndex := 6#4 })).map (fun t => (t.bitIndex, t.phase)) =
        some (7#4, .setupBit) ∧
      (after (exec .seqCompleteNext
        { completing with bitIndex := 7#4, config := { completing.config with width := .w16 } })).map
          (fun t => t.bitIndex) = some 8#4 := by decide
/-- V1's STEP 25. -/
theorem test_completeLast :
    (after (exec .seqCompleteLast completingLast)).map
        (fun t => (t.bitIndex, t.dataReady, t.phase, t.pins.cs, t.pins.sck)) =
      some (7#4, false, .idle, some true, some true) := by decide
/-- V4's STEP 25: no CS pin, no pin write. -/
theorem test_completeLast_no_cs :
    (after (exec .seqCompleteLast
      { completingLast with config := { completingLast.config with csPin := none } })).map
        (fun t => (t.pinTrace, t.dataReady)) = some ([], false) := by decide
theorem test_subWait : after (exec .subWait waiting) = some waiting := by decide
/-- P3: the waiting SUBMIT of 0x00F0 loads 0x000F. -/
theorem test_subLoad :
    (after (exec .subLoad granted)).map (fun t => (t.shiftRegister, t.dataReady, t.submitUnit)) =
      some (0x000F#16, true, none) := by decide
/-- X4: a present buffer of length 0. -/
theorem test_xferReject :
    (after (exec .xferReject
      { calling with request := { requestX1 with buffer := some [], length := 0 } })).map
        (fun t => (t.results, t.txOnly, t.xferActive)) =
      some ([{ operation := .transfer, code := .invalidArgument }], false, false) := by decide
theorem test_xferBegin :
    (after (exec .xferBegin { calling with now := 1000#32, cursor := 9 })).map
        (fun t => (t.startTick, t.cursor, t.remaining)) = some (1000#32, 0, 3) := by decide
/-- R132 asks for a present buffer and `length >= 1` only: a length that is not the byte count runs. -/
theorem test_xferBegin_longer :
    (after (exec .xferBegin { calling with request := { requestX1 with length := 4 } })).map
        (fun t => t.remaining) = some 4 := by decide
/-- R134's example. -/
theorem test_xferWrite :
    (after (exec .xferWrite { sending with txe := true })).map (fun t => (t.drTrace, t.cursor, t.remaining)) =
      some ([0x11#8, 0x22#8], 2, 1) := by decide
/-- Past the buffer's bytes and below `length` the call goes on; at `length`, which no run reaches, it faults. -/
theorem test_xferWrite_past_the_buffer :
    (after (exec .xferWrite
      { sending with txe := true, cursor := 3, remaining := 1, request := { requestX1 with length := 4 } })).map
        (fun t => (t.cursor, t.remaining, t.drTrace.length, t.freeCount)) = some (4, 0, 2, 1) ∧
      faultOf (exec .xferWrite { sending with txe := true, cursor := 3 }) = some .bufferOutOfRange := by decide
/-- R135's example: elapsed 4 of 5. -/
theorem test_xferWait : after (exec .xferWait polling) = some polling := by decide
/-- X9's neighbour X6: elapsed 5 of 5. -/
theorem test_xferTimeout :
    (after (exec .xferTimeout { polling with now := 105#32 })).map (fun t => (t.results, t.xferActive)) =
      some ([{ operation := .transfer, code := .timeout }], false) := by decide
theorem test_xferDone :
    (after (exec .xferDone { sending with remaining := 0, cursor := 3 })).map (fun t => (t.results, t.drTrace)) =
      some ([{ operation := .transfer, code := .ok }], [0x11#8]) := by decide
/-- A micro-operation that the state does not select is refused. -/
theorem test_not_selected : refusal (exec .seqSettle setup) = some .notSelected ∧
    refusal (exec .subLoad waiting) = some .notSelected ∧
    refusal (exec .xferTimeout polling) = some .notSelected := by decide

/-! A placed word is the one the next step runs. -/

theorem test_placed_commands :
    ((after (step (State.reset.withFetchWord 32 0x10000B00))).map fun t => t.configured) = some true ∧
      ((after (step (State.reset.withFetchWord 32 0x200000A3))).map fun t => t.shiftRegister) =
        some 0x00C5#16 ∧
      ((after (step (State.reset.withFetchWord 32 0x30000000))).map fun t => t.pinTrace.length) = some 1 ∧
      ((after (step (State.reset.withFetchWord 32 0x40000000))).map fun t => t.results.length) = some 1 ∧
      refusal (step (State.reset.withFetchWord 32 0x50000000)) = some (.badEncoding .reservedOp) := by decide
theorem test_placed_vectors :
    ((after (step (State.reset.withFetchWord 8 0x39))).map fun t => t.dataReady) = some false ∧
      ((after (step (State.reset.withFetchWord 8 0x18))).map fun t => t.phase) = some .clockSettle ∧
      refusal (step (State.reset.withFetchWord 8 0x50)) = some .noMicroOperation ∧
      ((after (step (State.reset.withFetchWord 3 2))).map fun t => t.drTrace) = some [0#8] ∧
      ((after (step (State.reset.withFetchWord 3 1))).map fun t => t.results) =
        some [{ operation := .transfer, code := .timeout }] ∧
      ((after (step (State.reset.withFetchWord 1 0))).map fun t => t.dataReady) = some true := by decide

/-! Witnesses: for each statement with hypotheses, a concrete state and operands that meet all of them. -/

/-- Two values that hold nothing above bit 7. -/
theorem high_bits_clear {v : UnitWord} (hv : v = 0x0062#16 ∨ v = 0#16) : ∀ i, Width.w8.bits ≤ i →
    v.getLsbD i = false := by
  intro i hi
  have h8 : 8 ≤ i := hi
  rcases hv with rfl | rfl
  · by_cases h : i < 16
    · interval_cases i <;> decide
    · exact BitVec.getLsbD_of_ge _ _ (by omega)
  · simp

/-- V1 after STEP 2 meets the invariant. -/
theorem settling_inv : Inv settling where
  unconfigured := by decide
  ready := by decide
  noError := by decide
  receive := by decide
  index := by decide
  register := high_bits_clear (.inl rfl)
  owned := by decide
  resting := by decide
  between := by decide
  untouched := by decide
  leading := by decide
  trailing := by decide
  deselected := by decide
  selected := by decide
  transfer := by decide

/-- V6 after STEP 1 meets the invariant. -/
theorem receiver_inv : Inv { receiver with phase := .error } where
  unconfigured := by decide
  ready := by decide
  noError := by decide
  receive := by decide
  index := by decide
  register := high_bits_clear (.inr rfl)
  owned := by decide
  resting := by decide
  between := by decide
  untouched := by decide
  leading := by decide
  trailing := by decide
  deselected := by decide
  selected := by decide
  transfer := by decide

/-- X1 after its first byte, with the flag set, meets the invariant. -/
theorem sending_inv : Inv { sending with txe := true } where
  unconfigured := by decide
  ready := by decide
  noError := by decide
  receive := by decide
  index := by decide
  register := high_bits_clear (.inr rfl)
  owned := by decide
  resting := by decide
  between := by decide
  untouched := by decide
  leading := by decide
  trailing := by decide
  deselected := by decide
  selected := by decide
  transfer := by decide

/-- A command with a STEP while a TRANSFER is in progress, a task's command with none, and a word that is no
command. -/
theorem witness_StepRunsDecodedCommand :
    (∃ (s : State) (c : Command) (rest : List Input) (i : Instr), s.inputs = .command c :: rest ∧
      decodeCmd c.word = .ok i ∧ (s.xferActive = true → i.fromTask = false) ∧ s.xferActive = true) ∧
    (∃ (s : State) (c : Command) (rest : List Input) (i : Instr), s.inputs = .command c :: rest ∧
      decodeCmd c.word = .ok i ∧ (s.xferActive = true → i.fromTask = false) ∧ i.fromTask = true) ∧
    (∃ (s : State) (c : Command) (rest : List Input) (r : Reject), s.inputs = .command c :: rest ∧
      decodeCmd c.word = .error r) :=
  ⟨⟨{ sending with inputs := [.command (commandOf 0x30000000#32)] }, commandOf 0x30000000#32, [], .step,
      by decide⟩,
    ⟨{ engine with inputs := [.command (commandOf 0x200000A3#32), .taskTurn] }, commandOf 0x200000A3#32,
      [.taskTurn], .submit 0x00A3#16, by decide⟩,
    ⟨{ engine with inputs := [.command (commandOf 0x30000001#32)] }, commandOf 0x30000001#32, [], .mustBeZero,
      by decide⟩⟩

/-- The task's turn comes with no input, by its own input and by a command that must wait; it falls to a TRANSFER,
to a waiting SUBMIT and to no task. -/
theorem witness_TaskTurnRunsTheTaskInside :
    (∃ s u : State, (s.inputs = [] ∧ u = s) ∧ s.xferActive = true ∧ decodeXloop (xloop u) = some .wait) ∧
    (∃ s u : State, (∃ rest, s.inputs = .taskTurn :: rest ∧ u = { s with inputs := rest }) ∧
      s.xferActive = false ∧ s.submitUnit.isSome = true ∧ decodeSubv (subv u) = some .load) ∧
    (∃ s u : State, (∃ c rest i, s.inputs = .command c :: rest ∧ decodeCmd c.word = .ok i ∧ i.fromTask = true ∧
      s.xferActive = true ∧ u = s) ∧ s.xferActive = true ∧ decodeXloop (xloop u) = some .wait) ∧
    (∃ s u : State, (s.inputs = [] ∧ u = s) ∧ s.xferActive = false ∧ s.submitUnit = none) :=
  ⟨⟨polling, polling, by decide⟩,
    ⟨{ granted with inputs := [.taskTurn] }, granted, ⟨[], by decide⟩, by decide⟩,
    ⟨{ polling with inputs := [.command (commandOf 0x40000000#32)] },
      { polling with inputs := [.command (commandOf 0x40000000#32)] },
      ⟨commandOf 0x40000000#32, [], .transfer, by decide⟩, by decide⟩,
    ⟨State.reset, State.reset, by decide⟩⟩

theorem witness_EnvironmentInputsChangeOnlyTheirOwn :
    (∃ (s : State) (rest : List Input) (flag : Bool), s.inputs = .txe flag :: rest) ∧
    (∃ (s : State) (rest : List Input) (tick : Word), s.inputs = .now tick :: rest) :=
  ⟨⟨{ polling with inputs := [.txe true] }, [], true, by decide⟩,
    ⟨{ polling with inputs := [.now 105#32] }, [], 105#32, by decide⟩⟩

theorem witness_DecodeInvertsEncode : (Instr.submit 0xFFFF#16).wellFormed = true := by decide

theorem witness_EncodeInvertsDecodeOfCommands : decodeCmd 0x2000FFFF#32 = .ok (.submit 0xFFFF#16) := by decide

/-- Each clause at its boundary values. -/
theorem witness_ReservedWordsRejectedByName :
    (0x0FFFFFFF#32).toNat / 2 ^ 28 = 0 ∧ 5 ≤ (0x50000000#32).toNat / 2 ^ 28 ∧
    (1 ≤ (0x10010000#32).toNat / 2 ^ 28 ∧ (0x48000000#32).toNat / 2 ^ 28 ≤ 4 ∧
      (0x10010000#32).toNat / 2 ^ 16 % 2 ^ 12 ≠ 0 ∧ (0x48000000#32).toNat / 2 ^ 16 % 2 ^ 12 ≠ 0) ∧
    ((0x10001B00#32).toNat / 2 ^ 28 = 1 ∧ (0x10001B00#32).toNat / 2 ^ 12 % 2 ^ 4 ≠ 0) ∧
    ((0x30000001#32).toNat / 2 ^ 28 = 3 ∧ (0x30000001#32).toNat % 2 ^ 16 ≠ 0) ∧
    ((0x40008000#32).toNat / 2 ^ 28 = 4 ∧ (0x40008000#32).toNat % 2 ^ 16 ≠ 0) ∧
    (2 ^ Format.seqv.bits ≤ (0x100#32).toNat ∧ 2 ^ Format.subv.bits ≤ (2#32).toNat ∧
      2 ^ Format.xent.bits ≤ (2#32).toNat ∧ 2 ^ Format.xloop.bits ≤ (8#32).toNat) ∧
    ((0x50#32).toNat < 2 ^ 7 ∧ 5 ≤ (0x50#32).toNat / 2 ^ 4 ∧ (0x7F#32).toNat < 2 ^ 7 ∧
      5 ≤ (0x7F#32).toNat / 2 ^ 4) ∧
    ((0x32#32).toNat / 2 ^ 4 = 3 ∧ 2 ≤ (0x32#32).toNat % 2 ^ 2 ∧ (0x3F#32).toNat / 2 ^ 4 = 3 ∧
      2 ≤ (0x3F#32).toNat % 2 ^ 2) := by decide

/-- A vector with don't-care bits set in each of the two wider formats. -/
theorem witness_VectorWordsAreTheirRows :
    decode .seqv 0xFF#32 = .ok .seqErrEnter ∧ decode .seqv 0x4F#32 = .ok .seqErrHold ∧
      decode .xloop 0x7#32 = .ok .xferDone := by decide

theorem witness_UnconfiguredEngineRefusesSubmitAndStep : State.reset.configured = false := by decide

/-- Unconfigured, idle and in Error. -/
theorem witness_ConfigureInstallsAndResets :
    ∀ s ∈ [State.reset, engine, { receiver with phase := .error, dataReady := true }],
      cfgK1.cpol.toNat ≤ 1 ∧ cfgK1.cpha.toNat ≤ 1 ∧ cfgK1.sckPresent = true ∧
        (s.configured = false ∨
          (s.submitUnit = none ∧ ((s.phase = .idle ∧ s.dataReady = false) ∨ s.phase = .error))) ∧
        (cfgK1.boundPins s.pinOperands).Nodup := by decide

/-- K4, K5 and K6. -/
theorem witness_InvalidConfigureChangesNothing :
    2 ≤ (Cfg.cpol { cfgK1 with cpol := 2#2 }).toNat ∧ 2 ≤ (Cfg.cpha { cfgK1 with cpha := 3#2 }).toNat ∧
      Cfg.sckPresent { cfgK1 with sckPresent := false } = false := by decide

theorem witness_ConfigureRefusals :
    (cfgK1.cpol.toNat ≤ 1 ∧ cfgK1.cpha.toNat ≤ 1 ∧ cfgK1.sckPresent = true) ∧
    (granted.configured = true ∧ granted.submitUnit.isSome = true) ∧
    (loaded.configured = true ∧ loaded.phase ≠ .error ∧ loaded.dataReady = true) ∧
    (settling.configured = true ∧ settling.phase ≠ .error ∧ settling.phase ≠ .idle) ∧
    ∀ s ∈ [{ State.reset with pinOperands := sharedPins }, { engine with pinOperands := sharedPins },
        { receiver with phase := .error, dataReady := true, pinOperands := sharedPins }],
      (s.configured = false ∨
        (s.submitUnit = none ∧ ((s.phase = .idle ∧ s.dataReady = false) ∨ s.phase = .error))) ∧
      ¬ (cfgK1.boundPins s.pinOperands).Nodup := by decide

theorem witness_SpiConfigWrittenByConfigureOnly :
    (∃ t, exec .step loaded = .next t) ∧ ∃ t, exec (.configure cfgK1) State.reset = .next t :=
  ⟨⟨_, rfl⟩, ⟨_, rfl⟩⟩

/-- The last bit of each width and the first above it. -/
theorem witness_ReverseBitsBitByBit :
    7 < Width.w8.bits ∧ Width.w8.bits ≤ 8 ∧ 15 < Width.w16.bits ∧ Width.w16.bits ≤ 16 := by decide

theorem witness_ReverseBitsUndoesItself :
    (0x00FF#16).toNat < 2 ^ Width.w8.bits ∧ (0xFFFF#16).toNat < 2 ^ Width.w16.bits := by decide

/-- The idle engine, and one in Error. -/
theorem witness_SubmitLoadsAFreeEngine :
    ∀ s ∈ [engine, { receiver with phase := .error }],
      s.configured = true ∧ s.submitUnit = none ∧ s.dataReady = false := by decide

theorem witness_SubmitWaitsForABusyEngine :
    settling.configured = true ∧ settling.submitUnit = none ∧ settling.dataReady = true := by decide

theorem witness_SecondSubmitRefused : waiting.configured = true ∧ waiting.submitUnit.isSome = true := by decide

/-- In Idle, in Error, and at the last bit, where the wait ends. -/
theorem witness_SubWaitWritesNothing :
    (∀ s ∈ [waiting, { waiting with phase := .error, config := receiver.config },
        { completingLast with submitUnit := some 0x00F0#16 }],
      s.configured = true ∧ s.submitUnit.isSome = true ∧ s.dataReady = true) ∧
    (∃ t, exec .step { completingLast with submitUnit := some 0x00F0#16 } = .next t ∧ t.dataReady = false) ∧
    (∃ t, exec .seqCompleteLast { completingLast with submitUnit := some 0x00F0#16 } = .next t ∧
      t.dataReady = false) ∧
    ∃ s : State, s.configured = true ∧ s.submitUnit.isSome = true ∧ s.dataReady = true ∧ s.xferActive = false ∧
      s.inputs = [.taskTurn] :=
  ⟨by decide, ⟨_, rfl, by decide⟩, ⟨_, rfl, by decide⟩, ⟨{ waiting with inputs := [.taskTurn] }, by decide⟩⟩

theorem witness_SubLoadLoadsTheWaitingUnit :
    granted.configured = true ∧ granted.submitUnit = some 0x00F0#16 ∧ granted.dataReady = false := by decide

theorem witness_SubmitFrame :
    (∃ t, exec (.submit 0x0055#16) engine = .next t) ∧ (∃ t, exec .subWait waiting = .next t) ∧
      ∃ t, exec .subLoad granted = .next t :=
  ⟨⟨_, rfl⟩, ⟨_, rfl⟩, ⟨_, rfl⟩⟩

theorem witness_DataReadyHandOff :
    (∃ t, exec (.submit 0x0055#16) engine = .next t ∧ t.dataReady ≠ engine.dataReady) ∧
      ∃ t, exec .step completingLast = .next t ∧ t.dataReady ≠ completingLast.dataReady :=
  ⟨⟨_, rfl, by decide⟩, ⟨_, rfl, by decide⟩⟩

theorem witness_StepSelectsOneMicroOperation : completing.configured = true := by decide

theorem witness_LeadLevelTable :
    Params.default.leadRule = .formula ∧ Params.leadRule { Params.default with leadRule := .gloss } = .gloss ∧
      Params.leadRule { Params.default with leadRule := .standard } = .standard := by decide

theorem witness_TrailLevelComplementsLead :
    Params.default.leadRule = .formula ∧ settling.params = Params.default ∧ settling.config.cpol = false ∧
      settling.config.cpha = false ∧ settling.configured = true ∧ settling.config.dir = 0#2 ∧
      settling.phase = .clockSettle := by decide

theorem witness_IdleHoldDrivesIdleClock :
    engine.configured = true ∧ engine.config.dir = 0#2 ∧ engine.phase = .idle ∧ engine.dataReady = false := by
  decide

theorem witness_IdleStartEntersSetupBit :
    loaded.configured = true ∧ loaded.config.dir = 0#2 ∧ loaded.phase = .idle ∧ loaded.dataReady = true := by
  decide

theorem witness_SetupFirstAssertsAndShifts :
    setup.configured = true ∧ setup.config.dir = 0#2 ∧ setup.phase = .setupBit ∧ setup.bitIndex = 0#4 := by
  decide

theorem witness_SetupNextShifts :
    ∃ s : State, s.configured = true ∧ s.config.dir = 0#2 ∧ s.phase = .setupBit ∧ s.bitIndex ≠ 0#4 :=
  ⟨{ completing with phase := .setupBit, bitIndex := 1#4 }, by decide⟩

theorem witness_SettleDrivesTrailingLevel :
    (settling.configured = true ∧ settling.config.dir = 0#2 ∧ settling.phase = .clockSettle) ∧ Inv settling :=
  ⟨by decide, settling_inv⟩

theorem witness_CompleteNextIncrements :
    ∃ s : State, s.configured = true ∧ s.config.dir = 0#2 ∧ s.phase = .bitComplete ∧
      s.bitIndex.toNat + 1 < s.config.width.bits :=
  ⟨{ completing with bitIndex := 6#4 }, by decide⟩

theorem witness_CompleteLastClearsDataReady :
    completingLast.configured = true ∧ completingLast.config.dir = 0#2 ∧ completingLast.phase = .bitComplete ∧
      completingLast.bitIndex.toNat + 1 = completingLast.config.width.bits := by decide

theorem witness_ErrEnterIsUnsupported : receiver.configured = true ∧ receiver.config.dir ≠ 0#2 := by decide

theorem witness_ErrHoldChangesNothing :
    (∃ s : State, s.configured = true ∧ s.phase = .error ∧ s.config.dir = 0#2) ∧
      ∃ s : State, s.configured = true ∧ s.phase = .error ∧ s.config.dir ≠ 0#2 ∧ Inv s :=
  ⟨⟨{ engine with phase := .error }, by decide⟩,
    ⟨{ receiver with phase := .error }, by decide, by decide, by decide, receiver_inv⟩⟩

theorem witness_ErrorLeftByConfigureOnly :
    ∃ s t : State, s.configured = true ∧ s.phase = .error ∧ exec (.configure cfgK1) s = .next t ∧
      t.phase ≠ .error :=
  ⟨{ receiver with phase := .error }, _, rfl, rfl, rfl, by decide⟩

theorem witness_SequencerFrame :
    (∃ t, exec .step loaded = .next t) ∧ (∃ t, exec .seqErrEnter receiver = .next t) ∧
      (∃ t, exec .seqErrHold { engine with phase := .error } = .next t) ∧
      (∃ t, exec .seqIdleHold engine = .next t) ∧ (∃ t, exec .seqIdleStart loaded = .next t) ∧
      (∃ t, exec .seqSetupFirst setup = .next t) ∧
      (∃ t, exec .seqSetupNext { setup with bitIndex := 1#4 } = .next t) ∧
      (∃ t, exec .seqSettle settling = .next t) ∧ (∃ t, exec .seqCompleteNext completing = .next t) ∧
      ∃ t, exec .seqCompleteLast completingLast = .next t :=
  ⟨⟨_, rfl⟩, ⟨_, rfl⟩, ⟨_, rfl⟩, ⟨_, rfl⟩, ⟨_, rfl⟩, ⟨_, rfl⟩, ⟨_, rfl⟩, ⟨_, rfl⟩, ⟨_, rfl⟩, ⟨_, rfl⟩⟩

theorem witness_SafeEngineAlwaysSteps : Inv settling ∧ settling.configured = true := ⟨settling_inv, rfl⟩

theorem witness_UnitTakesThreeStepsPerBit :
    loaded.configured = true ∧ loaded.config.dir = 0#2 ∧ loaded.phase = .idle ∧ loaded.dataReady = true ∧
      7 < loaded.config.width.bits := by decide

theorem witness_UnitWaveform :
    (loaded.configured = true ∧ loaded.config.dir = 0#2 ∧ loaded.phase = .idle ∧ loaded.dataReady = true) ∧
      (∀ i, loaded.config.width.bits ≤ i → loaded.shiftRegister.getLsbD i = false) ∧
      loaded.config.mosiPin.isSome = true ∧ 7 < loaded.config.width.bits := by
  refine ⟨by decide, fun i hi => ?_, by decide, by decide⟩
  have h8 : 8 ≤ i := hi
  by_cases h : i < 16
  · interval_cases i <;> decide
  · exact BitVec.getLsbD_of_ge _ _ (by omega)

theorem witness_ChipSelectFramesTheUnit :
    loaded.configured = true ∧ loaded.config.dir = 0#2 ∧ loaded.phase = .idle ∧ loaded.dataReady = true := by
  decide

theorem witness_ReceiveEngineStaysInError :
    receiver.configured = true ∧ receiver.config.dir ≠ 0#2 ∧ 1 ≤ 1 := by decide

/-- X5 and X4. -/
theorem witness_EmptyTransferRejected :
    (∃ s : State, s.xferActive = false ∧ s.request.buffer = none) ∧
      ∃ s : State, s.xferActive = false ∧ s.request.buffer = some [] ∧ s.request.length = 0 :=
  ⟨⟨{ calling with request := { requestX1 with buffer := none } }, by decide⟩,
    ⟨{ calling with request := { requestX1 with buffer := some [], length := 0 } }, by decide⟩⟩

/-- A length that is the byte count, one below it and one above it. -/
theorem witness_TransferBegins :
    ∀ n ∈ [3, 1, 4], ∃ s : State, s.xferActive = false ∧ s.request.buffer.isSome = true ∧ s.request.length ≠ 0 ∧
      s.request.length = n := by
  intro n hn
  refine ⟨{ calling with request := { requestX1 with length := n } }, rfl, rfl, ?_, rfl⟩
  revert n
  decide

theorem witness_XferWriteHandsOffOneByte :
    ∃ s : State, s.xferActive = true ∧ s.remaining ≠ 0 ∧ s.txe = true ∧
      s.request.buffer = some [0x11#8, 0x22#8, 0x33#8] ∧ s.cursor < s.request.length ∧
      [0x11#8, 0x22#8, 0x33#8][s.cursor]? = some 0x22#8 ∧ Inv s ∧ s.request.wellFormed = true :=
  ⟨{ sending with txe := true }, by decide, by decide, by decide, by decide, by decide, by decide, sending_inv,
    by decide⟩

/-- The first byte past the buffer, the cursor at `length`, and no buffer. -/
theorem witness_XferWritePastTheBuffer :
    (∃ s : State, s.xferActive = true ∧ s.remaining ≠ 0 ∧ s.txe = true ∧
      s.request.buffer = some [0x11#8, 0x22#8, 0x33#8] ∧ [0x11#8, 0x22#8, 0x33#8].length ≤ s.cursor ∧
      s.cursor < s.request.length) ∧
    (∃ s : State, s.xferActive = true ∧ s.remaining ≠ 0 ∧ s.txe = true ∧ s.request.length ≤ s.cursor) ∧
    ∃ s : State, s.xferActive = true ∧ s.remaining ≠ 0 ∧ s.txe = true ∧ s.request.buffer = none :=
  ⟨⟨{ sending with txe := true, cursor := 3, remaining := 1, request := { requestX1 with length := 4 } },
      by decide⟩,
    ⟨{ sending with txe := true, cursor := 3 }, by decide⟩,
    ⟨{ sending with txe := true, request := { requestX1 with buffer := none } }, by decide⟩⟩

/-- Elapsed 4 of 5, and the two sentinels. -/
theorem witness_XferWaitChangesNothing :
    (polling.xferActive = true ∧ polling.remaining ≠ 0 ∧ polling.txe = false ∧
      (polling.now - polling.startTick).toNat < polling.request.timeoutTicks.toNat) ∧
    (∃ s : State, s.xferActive = true ∧ s.remaining ≠ 0 ∧ s.txe = false ∧ s.request.timeoutTicks = 0#32) ∧
    (∃ s : State, s.xferActive = true ∧ s.remaining ≠ 0 ∧ s.txe = false ∧
      s.request.timeoutTicks = s.params.timeoutInfinite) :=
  ⟨by decide, ⟨{ polling with request := { polling.request with timeoutTicks := 0#32 } }, by decide⟩,
    ⟨{ polling with request := { polling.request with timeoutTicks := 0xFFFFFFFF#32 } }, by decide⟩⟩

/-- Elapsed 5 of 5. -/
theorem witness_XferTimeoutEndsTheCall :
    ∃ s : State, s.xferActive = true ∧ s.remaining ≠ 0 ∧ s.txe = false ∧ s.request.timeoutTicks ≠ 0#32 ∧
      s.request.timeoutTicks ≠ s.params.timeoutInfinite ∧
      s.request.timeoutTicks.toNat ≤ (s.now - s.startTick).toNat :=
  ⟨{ polling with now := 105#32 }, by decide⟩

theorem witness_XferDoneReturnsOk : ∃ s : State, s.xferActive = true ∧ s.remaining = 0 :=
  ⟨{ sending with remaining := 0, cursor := 3 }, by decide⟩

theorem witness_TransferRefusals : sending.xferActive = true := by decide

theorem witness_TransferFrame :
    (∃ t, exec .transfer calling = .next t) ∧ (∃ t, exec .xferReject State.reset = .next t) ∧
      (∃ t, exec .xferBegin calling = .next t) ∧
      (∃ t, exec .xferDone { sending with remaining := 0 } = .next t) ∧
      (∃ t, exec .xferWrite { sending with txe := true } = .next t) ∧
      (∃ t, exec .xferWait polling = .next t) ∧
      ∃ t, exec .xferTimeout { polling with now := 105#32 } = .next t :=
  ⟨⟨_, rfl⟩, ⟨_, rfl⟩, ⟨_, rfl⟩, ⟨_, rfl⟩, ⟨_, rfl⟩, ⟨_, rfl⟩, ⟨_, rfl⟩⟩

/-- X1, and a length one above the byte count. -/
theorem witness_TransferHandsOffTheBuffer :
    (∃ (s : State) (c : Command) (bytes : List Byte), s.inputs = [.command c] ∧ c.word = 0x40000000#32 ∧
      c.request.buffer = some bytes ∧ c.request.length ≠ 0 ∧ s.xferActive = false ∧ s.txe = true ∧
      c.request.length = bytes.length) ∧
    ∃ (s : State) (c : Command) (bytes : List Byte), s.inputs = [.command c] ∧ c.word = 0x40000000#32 ∧
      c.request.buffer = some bytes ∧ c.request.length ≠ 0 ∧ s.xferActive = false ∧ s.txe = true ∧
      bytes.length < c.request.length :=
  ⟨⟨{ State.reset with txe := true, inputs := [.command (commandOf 0x40000000#32)] }, commandOf 0x40000000#32,
      [0x11#8, 0x22#8, 0x33#8], by decide⟩,
    ⟨{ State.reset with
        txe := true
        inputs :=
          [.command { commandOf 0x40000000#32 with request := { requestX1 with length := 4 } }] },
      { commandOf 0x40000000#32 with request := { requestX1 with length := 4 } },
      [0x11#8, 0x22#8, 0x33#8], by decide⟩⟩

/-- The invariant says nothing of the inputs. -/
theorem settling_inv_inputs (l : List Input) : Inv { settling with inputs := l } :=
  { unconfigured := settling_inv.unconfigured, ready := settling_inv.ready, noError := settling_inv.noError,
    receive := settling_inv.receive, index := settling_inv.index, register := settling_inv.register,
    owned := settling_inv.owned, resting := settling_inv.resting, between := settling_inv.between,
    untouched := settling_inv.untouched, leading := settling_inv.leading, trailing := settling_inv.trailing,
    deselected := settling_inv.deselected, selected := settling_inv.selected,
    transfer := settling_inv.transfer }

theorem witness_StepKeepsInv : ∃ s t : State, Inv s ∧ step s = .next t ∧ t.phase ≠ s.phase :=
  ⟨{ settling with inputs := [.command (commandOf 0x30000000#32)] }, _, settling_inv_inputs _, rfl, by decide⟩

theorem witness_SafeTaskTurnNeverStops :
    ∃ (s : State) (rest : List Input), Inv s ∧ s.inputs = .taskTurn :: rest :=
  ⟨{ settling with inputs := [.taskTurn] }, [], settling_inv_inputs _, rfl⟩

theorem witness_ParametersNeverChange : ∃ t, step settling = .next t := ⟨_, rfl⟩

theorem witness_TracesOnlyGrow :
    ∃ t, step { settling with inputs := [.command (commandOf 0x30000000#32)] } = .next t ∧
      t.pinTrace.length = 1 :=
  ⟨_, rfl, by decide⟩

end Sys2Proof.Tests
end

section
/-! PROOF. The hand-off of `data_ready` (20_memory.md, R64): which value each instruction leaves the flag with. -/

namespace Sys2Proof.Machine

open Sys2Proof

/-! STEP, SUBMIT and TRANSFER complete only as the micro-operation their vector selects. -/

/-- Whatever STEP answers is the answer of one SEQ micro-operation (R110, R111). -/
theorem exists_seqOp_of_exec_step {s t : State} (h : exec .step s = .next t) :
    ∃ op : SeqOp, exec op.toInstr s = .next t := by
  cases hc : s.configured with
  | false => simp [exec, execStep, hc] at h
  | true =>
    cases hv : decodeSeqv (seqv s) with
    | none => simp [exec, execStep, hc, hv] at h
    | some op => exact ⟨op, execStep_eq hc hv ▸ h⟩

/-- Whatever SUBMIT answers is the answer of one SUB micro-operation, once the call has begun (R100). -/
theorem exists_subOp_of_exec_submit {unit : UnitWord} {s t : State} (h : exec (.submit unit) s = .next t) :
    ∃ op : SubOp, exec op.toInstr { s with submitUnit := some unit } = .next t := by
  simp only [exec, execSubmit] at h
  split at h
  · cases h
  · split at h
    · cases h
    · split at h
      case h_1 => exact ⟨.wait, h⟩
      case h_2 => exact ⟨.load, h⟩
      case h_3 => cases h

/-- Whatever TRANSFER answers is the answer of one XFER entry micro-operation (R130). -/
theorem exists_entryOp_of_exec_transfer {s t : State} (h : exec .transfer s = .next t) :
    ∃ op : EntryOp, exec op.toInstr s = .next t := by
  simp only [exec, execTransfer] at h
  split at h
  · cases h
  · split at h
    case h_1 => exact ⟨.reject, h⟩
    case h_2 => exact ⟨.begin, h⟩
    case h_3 => cases h

/-- A CONFIGURE that completes has either failed validation or set the engine up (R91, R92). -/
theorem exec_configure_cases {cfg : Cfg} {s t : State} (h : exec (.configure cfg) s = .next t) :
    t = returnResult .configure .invalidConfiguration s ∨
      t = returnResult .configure .ok (configureEngine cfg s) := by
  simp only [exec, execConfigure] at h
  split at h
  · cases h; exact .inl rfl
  · split at h
    · cases h
    · split at h
      · cases h
      · cases h; exact .inr rfl

/-! The flag after each micro-operation. -/

/-- SEQ leaves the flag alone but in SEQ_COMPLETE_LAST, which clears it (R64, R120). -/
theorem seqOp_dataReady {op : SeqOp} {s t : State} (h : exec op.toInstr s = .next t) :
    t.dataReady = if op = .completeLast then false else s.dataReady := by
  cases op <;> obtain ⟨-, -, rfl⟩ := seqMicro_next.1 h <;> simp

/-- SUB leaves the flag set: SUB_WAIT found it set, SUB_LOAD sets it (R64, R102, R103). -/
theorem subOp_dataReady {op : SubOp} {s t : State} (h : exec op.toInstr s = .next t) : t.dataReady = true := by
  cases op <;> obtain ⟨-, hv, unit, -, rfl⟩ := subMicro_next.1 h
  case wait => simpa using hv
  case load => rfl

/-- SUB_WAIT writes nothing (R102). -/
theorem eq_of_exec_subWait {s t : State} (h : exec .subWait s = .next t) : t = s := by
  obtain ⟨-, -, _, -, rfl⟩ := subMicro_next.1 h
  rfl

/-- XFER's entry leaves the flag alone. -/
theorem entryOp_dataReady {op : EntryOp} {s t : State} (h : exec op.toInstr s = .next t) :
    t.dataReady = s.dataReady := by
  cases op with
  | reject => simp only [EntryOp.toInstr, exec, execXferReject] at h; split_ifs at h; cases h; rfl
  | begin => simp only [EntryOp.toInstr, exec, execXferBegin] at h; split_ifs at h; cases h; rfl

/-- XFER's loop leaves the flag alone. -/
theorem loopOp_dataReady {op : LoopOp} {s t : State} (h : exec op.toInstr s = .next t) :
    t.dataReady = s.dataReady := by
  cases op <;> obtain ⟨-, -, ha⟩ := loopMicro_next.1 h
  case write => split at ha <;> cases ha; rfl
  all_goals cases ha; rfl

/-- A successful CONFIGURE resets the flag (R43, R92), a failed one leaves it alone (R91). -/
theorem configure_dataReady {cfg : Cfg} {s t : State} (h : exec (.configure cfg) s = .next t) :
    t.dataReady = s.dataReady ∨ t.dataReady = false := by
  obtain rfl | rfl := exec_configure_cases h
  · exact .inl rfl
  · exact .inr rfl

/-! The hand-off. -/

/-- What any instruction can do to the flag: leave it alone; leave it set, as SUBMIT and SUB_LOAD alone do; clear it,
as STEP, SEQ_COMPLETE_LAST and CONFIGURE alone do. -/
theorem exec_dataReady_cases {i : Instr} {s t : State} (h : exec i s = .next t) :
    t.dataReady = s.dataReady ∨
      (t.dataReady = true ∧ ((∃ unit, i = .submit unit) ∨ i = .subLoad)) ∨
      (t.dataReady = false ∧ (i = .step ∨ i = .seqCompleteLast ∨ ∃ cfg, i = .configure cfg)) := by
  cases i with
  | configure cfg => exact (configure_dataReady h).imp_right fun hf => .inr ⟨hf, .inr (.inr ⟨cfg, rfl⟩)⟩
  | submit unit =>
    obtain ⟨op, hop⟩ := exists_subOp_of_exec_submit h
    exact .inr (.inl ⟨subOp_dataReady hop, .inl ⟨unit, rfl⟩⟩)
  | step =>
    obtain ⟨op, hop⟩ := exists_seqOp_of_exec_step h
    have hd := seqOp_dataReady hop
    split at hd
    · exact .inr (.inr ⟨hd, .inl rfl⟩)
    · exact .inl hd
  | transfer =>
    obtain ⟨op, hop⟩ := exists_entryOp_of_exec_transfer h
    exact .inl (entryOp_dataReady hop)
  | seqErrEnter => exact .inl (seqOp_dataReady (op := .errEnter) h)
  | seqErrHold => exact .inl (seqOp_dataReady (op := .errHold) h)
  | seqIdleHold => exact .inl (seqOp_dataReady (op := .idleHold) h)
  | seqIdleStart => exact .inl (seqOp_dataReady (op := .idleStart) h)
  | seqSetupFirst => exact .inl (seqOp_dataReady (op := .setupFirst) h)
  | seqSetupNext => exact .inl (seqOp_dataReady (op := .setupNext) h)
  | seqSettle => exact .inl (seqOp_dataReady (op := .settle) h)
  | seqCompleteNext => exact .inl (seqOp_dataReady (op := .completeNext) h)
  | seqCompleteLast => exact .inr (.inr ⟨seqOp_dataReady (op := .completeLast) h, .inr (.inl rfl)⟩)
  | subWait => exact .inl (congrArg State.dataReady (eq_of_exec_subWait h))
  | subLoad => exact .inr (.inl ⟨subOp_dataReady (op := .load) h, .inr rfl⟩)
  | xferReject => exact .inl (entryOp_dataReady (op := .reject) h)
  | xferBegin => exact .inl (entryOp_dataReady (op := .begin) h)
  | xferDone => exact .inl (loopOp_dataReady (op := .done) h)
  | xferWrite => exact .inl (loopOp_dataReady (op := .write) h)
  | xferWait => exact .inl (loopOp_dataReady (op := .wait) h)
  | xferTimeout => exact .inl (loopOp_dataReady (op := .timeout) h)

/-- Settles O25: an instruction that changes the flag leaves it set or cleared as its agent does (R64), so it read
the opposite value. -/
theorem dataReadyHandOff : Obligations.DataReadyHandOff := by
  unfold Obligations.DataReadyHandOff
  intro i s t h hne
  obtain hkeep | ⟨hset, hsub⟩ | ⟨hclear, hseq⟩ := exec_dataReady_cases h
  · exact absurd hkeep hne
  · have hbefore : s.dataReady = false := by simpa [hset] using hne.symm
    exact .inl ⟨hbefore, hsub⟩
  · have hbefore : s.dataReady = true := by simpa [hclear] using hne.symm
    exact .inr ⟨hbefore, hseq⟩

end Sys2Proof.Machine
end

section
/-! PROOF. The wait of a SUBMIT (41_submit.md, R102): what a waiting call lets happen, and what ends the wait. -/

namespace Sys2Proof.Machine

open Sys2Proof

/-! The task's turn. -/

/-- A waiting SUBMIT makes SUB_WAIT run, and it writes nothing (R102). -/
theorem exec_subWait_waiting {s : State} (hc : s.configured = true) (hu : s.submitUnit.isSome = true)
    (hd : s.dataReady = true) : exec .subWait s = .next s := by
  obtain ⟨unit, hunit⟩ := Option.isSome_iff_exists.1 hu
  exact subMicro_next.2 ⟨hc, by simp [hd], unit, hunit, rfl⟩

/-- With no TRANSFER in progress, the turn of a task whose SUBMIT waits is SUB_WAIT (R102). -/
theorem runTask_waiting {s : State} (hx : s.xferActive = false) (hu : s.submitUnit.isSome = true)
    (hd : s.dataReady = true) : runTask s = exec .subWait s := by
  simp [runTask, hx, hu, hd, SubOp.toInstr]

/-- The input `taskTurn` gives the task context its turn (R20). -/
theorem step_taskTurn {s : State} {rest : List Input} (hi : s.inputs = .taskTurn :: rest) :
    step s = runTask { s with inputs := rest } := by
  simp only [step, runNext, hi]

/-! What clears the flag of a waiting call. -/

/-- A CONFIGURE that is not admitted completes only by failing validation (R91, R94). -/
theorem exec_configure_of_not_admitted {cfg : Cfg} {s t : State} (ha : configureAdmitted s = false)
    (h : exec (.configure cfg) s = .next t) : t = returnResult .configure .invalidConfiguration s := by
  simp only [exec, execConfigure, ha] at h
  split at h <;> cases h
  rfl

/-- No CONFIGURE is admitted while a SUBMIT is in progress (R94). -/
theorem configureAdmitted_waiting {s : State} (hc : s.configured = true) (hu : s.submitUnit.isSome = true) :
    configureAdmitted s = false := by
  obtain ⟨unit, hunit⟩ := Option.isSome_iff_exists.1 hu
  simp [configureAdmitted, hc, hunit]

/-- A SEQ micro-operation that clears the flag is SEQ_COMPLETE_LAST (R64, R120). -/
theorem seqOp_eq_completeLast {op : SeqOp} {s t : State} (h : exec op.toInstr s = .next t)
    (hs : s.dataReady = true) (ht : t.dataReady = false) : op = .completeLast := by
  by_contra hne
  have hkeep := seqOp_dataReady h
  simp [hne, hs, ht] at hkeep

/-- Only SEQ_COMPLETE_LAST, or the STEP that selects it, ends the wait (R102). -/
theorem exec_seqCompleteLast_of_ends_wait {i : Instr} {s t : State} (hc : s.configured = true)
    (hu : s.submitUnit.isSome = true) (hs : s.dataReady = true) (h : exec i s = .next t)
    (ht : t.dataReady = false) :
    (i = .step ∨ i = .seqCompleteLast) ∧ exec .seqCompleteLast s = .next t := by
  obtain hkeep | ⟨hset, -⟩ | ⟨-, rfl | rfl | ⟨cfg, rfl⟩⟩ := exec_dataReady_cases h
  · simp [hs, ht] at hkeep
  · simp [ht] at hset
  · obtain ⟨op, hop⟩ := exists_seqOp_of_exec_step h
    obtain rfl := seqOp_eq_completeLast hop hs ht
    exact ⟨.inl rfl, hop⟩
  · exact ⟨.inr rfl, h⟩
  · obtain rfl := exec_configure_of_not_admitted (configureAdmitted_waiting hc hu) h
    simp [hs] at ht

/-! STEPs in Error. -/

/-- In Error SEQ selects by the direction alone (R111). -/
theorem decodeSeqv_seqv_error {s : State} (hp : s.phase = .error) :
    decodeSeqv (seqv s) = some (if s.config.transmitOnly then .errHold else .errEnter) := by
  rw [decodeSeqv_seqv, hp]
  cases s.config.transmitOnly <;> rfl

/-- A STEP in Error changes nothing: SEQ_ERR_ENTER and SEQ_ERR_HOLD both write the phase that stands (R121, R122). -/
theorem exec_step_error {s : State} (hc : s.configured = true) (hp : s.phase = .error) :
    exec .step s = .next s := by
  have hsame : { s with phase := .error } = s := by rw [← hp]
  have hv := decodeSeqv_seqv_error hp
  rw [execStep_eq hc hv]
  cases hx : s.config.transmitOnly <;> rw [hx] at hv <;> exact seqMicro_next.2 ⟨hc, hv, hsame⟩

/-- Repeating an operation that answers the same state answers that state. -/
theorem iterate_of_fixed {f : State → Answer} {s : State} (h : f s = .next s) :
    ∀ n, iterate f n s = .next s
  | 0 => rfl
  | n + 1 => by simpa only [iterate, h] using iterate_of_fixed h n

/-- Settles O22: SUB_WAIT answers the state it found; CONFIGURE is not admitted during the wait, so of the
instructions that clear the flag only SEQ_COMPLETE_LAST is left (R64, R94); a STEP in Error is a fixed point. -/
theorem subWaitWritesNothing : Obligations.SubWaitWritesNothing := by
  unfold Obligations.SubWaitWritesNothing
  intro s hc hu hd
  refine ⟨exec_subWait_waiting hc hu hd, fun rest hx hi => ?_,
    fun i t h ht => exec_seqCompleteLast_of_ends_wait hc hu hd h ht,
    fun hp => iterate_of_fixed (exec_step_error hc hp)⟩
  rw [step_taskTurn hi]
  exact runTask_waiting hx hu hd

end Sys2Proof.Machine
end

section
/-! PROOF. STEP in ClockSettle and BitComplete (42_step_fsm.md, R113, R118 to R120): which micro-operation SEQ selects
there, and the state it answers. -/

namespace Sys2Proof.Machine

open Sys2Proof

/-! A SEQ micro-operation that completes is the STEP's own answer. -/

/-- The converse of `exists_seqOp_of_exec_step`: a SEQ micro-operation completes only where STEP selects it (R111). -/
theorem exec_step_of_seqOp {op : SeqOp} {s t : State} (h : exec op.toInstr s = .next t) :
    exec .step s = .next t := by
  have hsel : s.configured = true ∧ decodeSeqv (seqv s) = some op := by
    cases op <;> exact (seqMicro_next.1 h).imp_right And.left
  rw [execStep_eq hsel.1 hsel.2]
  exact h

/-! What SEQ selects in each phase of a transmit-only engine (R111). -/

/-- With `dir` transmit-only the phase and its own field select. -/
theorem decodeSeqv_seqv_transmit {s : State} (hd : s.config.dir = 0#2) :
    decodeSeqv (seqv s) = selected false s.phase s.dataReady (s.bitIndex == 0#4) (compareField s) := by
  simp [decodeSeqv_seqv, SpiConfig.transmitOnly, hd]

theorem decodeSeqv_seqv_idle_ready {s : State} (hd : s.config.dir = 0#2) (hp : s.phase = .idle)
    (hr : s.dataReady = true) : decodeSeqv (seqv s) = some .idleStart := by
  simp [decodeSeqv_seqv_transmit hd, hp, hr, selected]

theorem decodeSeqv_seqv_setupBit {s : State} (hd : s.config.dir = 0#2) (hp : s.phase = .setupBit) :
    decodeSeqv (seqv s) = some (if s.bitIndex = 0#4 then .setupFirst else .setupNext) := by
  by_cases h0 : s.bitIndex = 0#4 <;> simp [decodeSeqv_seqv_transmit hd, hp, h0, selected]

theorem decodeSeqv_seqv_clockSettle {s : State} (hd : s.config.dir = 0#2) (hp : s.phase = .clockSettle) :
    decodeSeqv (seqv s) = some .settle := by
  rw [decodeSeqv_seqv_transmit hd, hp]; rfl

theorem decodeSeqv_seqv_next_bit {s : State} (hd : s.config.dir = 0#2) (hp : s.phase = .bitComplete)
    (hi : s.bitIndex.toNat + 1 < s.config.width.bits) : decodeSeqv (seqv s) = some .completeNext := by
  have hcc : compareField s = 0#2 := if_pos hi
  rw [decodeSeqv_seqv_transmit hd, hp, hcc]; rfl

theorem decodeSeqv_seqv_last_bit {s : State} (hd : s.config.dir = 0#2) (hp : s.phase = .bitComplete)
    (hi : s.bitIndex.toNat + 1 = s.config.width.bits) : decodeSeqv (seqv s) = some .completeLast := by
  have hcc : compareField s = 1#2 := by simp [compareField, hi]
  rw [decodeSeqv_seqv_transmit hd, hp, hcc]; rfl

/-! The guarded pin writes these steps make (R53). -/

/-- The clock pin is always bound, so its write always happens (R26). -/
theorem pinWrite_sck_eq (l : Level) (s : State) :
    pinWrite .sck l s =
      { s with
        pins := { s.pins with sck := some l }
        pinTrace := s.pinTrace ++ [{ role := .sck, pin := s.config.sckPin, level := l }] } := rfl

/-- Chip-select is written where it is bound. -/
theorem pinWrite_cs_eq (l : Level) (s : State) :
    pinWrite .cs l s =
      { s with
        pins := { s.pins with cs := if s.config.csPin.isSome then some l else s.pins.cs }
        pinTrace := s.pinTrace ++ pinEvents s.config .cs l } := by
  cases h : s.config.csPin <;> simp [pinWrite, pinEvents, SpiConfig.pinOf, PinSpace.set, h]

/-! The states the micro-operations answer. -/

/-- SEQ_SETTLE (R118): SCK takes its trailing level. -/
theorem exec_seqSettle {s : State} (hc : s.configured = true) (hd : s.config.dir = 0#2)
    (hp : s.phase = .clockSettle) {trail : Level}
    (ht : trail = trailLevel s.params s.config.cpol s.config.cpha) :
    exec .seqSettle s = .next
      { s with
        phase := .bitComplete
        pins := { s.pins with sck := some trail }
        pinTrace := s.pinTrace ++ [{ role := .sck, pin := s.config.sckPin, level := trail }] } :=
  seqMicro_next.2 ⟨hc, decodeSeqv_seqv_clockSettle hd hp, by rw [ht, pinWrite_sck_eq]⟩

/-- SEQ_COMPLETE_NEXT (R119): the next bit. -/
theorem exec_seqCompleteNext {s : State} (hc : s.configured = true) (hd : s.config.dir = 0#2)
    (hp : s.phase = .bitComplete) (hi : s.bitIndex.toNat + 1 < s.config.width.bits) :
    exec .seqCompleteNext s = .next { s with bitIndex := s.bitIndex + 1#4, phase := .setupBit } :=
  seqMicro_next.2 ⟨hc, decodeSeqv_seqv_next_bit hd hp hi, rfl⟩

/-- SEQ_COMPLETE_LAST (R120): the end of the unit. -/
theorem exec_seqCompleteLast {s : State} (hc : s.configured = true) (hd : s.config.dir = 0#2)
    (hp : s.phase = .bitComplete) (hi : s.bitIndex.toNat + 1 = s.config.width.bits) :
    exec .seqCompleteLast s = .next
      { s with
        phase := .idle
        dataReady := false
        pins := { s.pins with
          cs := if s.config.csPin.isSome then some (!s.params.csActiveLevel) else s.pins.cs }
        pinTrace := s.pinTrace ++ pinEvents s.config .cs (!s.params.csActiveLevel) } :=
  seqMicro_next.2 ⟨hc, decodeSeqv_seqv_last_bit hd hp hi, by rw [pinWrite_cs_eq, csInactive]⟩

/-- No unit has more than 16 bits (R24). -/
theorem width_bits_le (w : Width) : w.bits ≤ 16 := by cases w <;> decide

/-- `bit_index` does not overflow before the last bit of a unit (R119). -/
theorem bitIndex_succ_toNat {i : BitVec 4} {w : Width} (h : i.toNat + 1 < w.bits) :
    (i + 1#4).toNat = i.toNat + 1 := by
  have hw := width_bits_le w
  exact BitVec.toNat_add_of_lt (by simp only [BitVec.toNat_ofNat]; omega)

/-! The obligations. -/

/-- Settles O28: `trail_level` is defined as the complement, FORMULA makes the leading level `cpha`, and the level is
the one SEQ_SETTLE writes (R112, R113). -/
theorem trailLevelComplementsLead : Obligations.TrailLevelComplementsLead := by
  unfold Obligations.TrailLevelComplementsLead
  intro p cpol cpha
  refine ⟨rfl, fun hf => ?_, ?_⟩
  · simp [trailLevel, leadLevel, hf]
  · rintro s rfl rfl rfl hc hd hp
    exact ⟨_, exec_step_of_seqOp (op := .settle) (exec_seqSettle hc hd hp rfl), rfl⟩

/-- Settles O33: the write is a transition, because the invariant has SCK at the leading level in ClockSettle (R112,
R118). -/
theorem settleDrivesTrailingLevel : Obligations.SettleDrivesTrailingLevel := by
  unfold Obligations.SettleDrivesTrailingLevel
  intro s hc hd hp trail htrail
  refine ⟨?_, fun hinv => ?_⟩
  · rintro t rfl
    have hmicro := exec_seqSettle hc hd hp htrail
    exact ⟨exec_step_of_seqOp (op := .settle) hmicro, hmicro⟩
  · have hlead := hinv.leading hc hp
    simp [hlead, htrail, trailLevel]

/-- Settles O34: a bit before the last one has a next index below `W`, which four bits hold (R119). -/
theorem completeNextIncrements : Obligations.CompleteNextIncrements := by
  unfold Obligations.CompleteNextIncrements
  intro s hc hd hp hi
  refine ⟨?_, bitIndex_succ_toNat hi, by omega⟩
  rintro t rfl
  have hmicro := exec_seqCompleteNext hc hd hp hi
  exact ⟨exec_step_of_seqOp (op := .completeNext) hmicro, hmicro⟩

/-- Settles O35: at bit `W - 1` SEQ selects SEQ_COMPLETE_LAST, whose one pin write is guarded by the presence of
chip-select (R120). -/
theorem completeLastClearsDataReady : Obligations.CompleteLastClearsDataReady := by
  unfold Obligations.CompleteLastClearsDataReady
  rintro s hc hd hp hi t rfl
  have hmicro := exec_seqCompleteLast hc hd hp hi
  exact ⟨exec_step_of_seqOp (op := .completeLast) hmicro, hmicro⟩

end Sys2Proof.Machine
end

section
/-! PROOF. The step-count law (42_step_fsm.md, R123): a unit's position, and how each STEP moves it on. -/

namespace Sys2Proof.Machine

open Sys2Proof

/-- A unit is in flight at bit `k`, on a transmit-only engine of configuration `c` in phase `p` (R123). -/
structure InUnit (c : SpiConfig) (p : Phase) (k : Nat) (s : State) : Prop where
  configured : s.configured = true
  config : s.config = c
  transmit : s.config.dir = 0#2
  phase : s.phase = p
  index : s.bitIndex.toNat = k
  ready : s.dataReady = true

/-- STEP in SetupBit (R116, R117): at bit 0 chip-select is asserted first; then the bit is shifted out. -/
theorem exec_step_setupBit {s : State} (hc : s.configured = true) (hd : s.config.dir = 0#2)
    (hp : s.phase = .setupBit) :
    exec .step s = .next (shiftOut (if s.bitIndex = 0#4 then pinWrite .cs s.params.csActiveLevel s else s)) := by
  have hv := decodeSeqv_seqv_setupBit hd hp
  split at hv
  case isTrue h0 => exact exec_step_of_seqOp (op := .setupFirst) (seqMicro_next.2 ⟨hc, hv, by rw [if_pos h0]⟩)
  case isFalse h0 => exact exec_step_of_seqOp (op := .setupNext) (seqMicro_next.2 ⟨hc, hv, by rw [if_neg h0]⟩)

/-! One STEP of a unit. -/

/-- The STEP after the load, in Idle, begins the unit at bit 0 (R115). -/
theorem exec_step_begins_unit {s : State} (hc : s.configured = true) (hd : s.config.dir = 0#2)
    (hp : s.phase = .idle) (hr : s.dataReady = true) :
    ∃ t, exec .step s = .next t ∧ InUnit s.config .setupBit 0 t := by
  have hstart : exec .seqIdleStart s = .next { s with bitIndex := 0#4, phase := .setupBit } :=
    seqMicro_next.2 ⟨hc, decodeSeqv_seqv_idle_ready hd hp hr, rfl⟩
  exact ⟨_, exec_step_of_seqOp (op := .idleStart) hstart, hc, rfl, hd, rfl, rfl, hr⟩

section
variable {c : SpiConfig} {k : Nat} {s : State}

/-- The SetupBit STEP of a bit leads to its ClockSettle. -/
theorem InUnit.step_setupBit (h : InUnit c .setupBit k s) :
    ∃ t, exec .step s = .next t ∧ InUnit c .clockSettle k t := by
  refine ⟨_, exec_step_setupBit h.configured h.transmit h.phase, ?_⟩
  split <;> exact
    { configured := by simp [h.configured], config := by simp [h.config], transmit := by simp [h.transmit]
      phase := by simp, index := by simp [h.index], ready := by simp [h.ready] }

/-- The ClockSettle STEP of a bit leads to its BitComplete. -/
theorem InUnit.step_clockSettle (h : InUnit c .clockSettle k s) :
    ∃ t, exec .step s = .next t ∧ InUnit c .bitComplete k t :=
  ⟨_, exec_step_of_seqOp (op := .settle) (exec_seqSettle h.configured h.transmit h.phase rfl),
    h.configured, h.config, h.transmit, rfl, h.index, h.ready⟩

/-- The BitComplete STEP of a bit before the last leads to the next bit's SetupBit. -/
theorem InUnit.step_bitComplete_next (h : InUnit c .bitComplete k s) (hk : k + 1 < c.width.bits) :
    ∃ t, exec .step s = .next t ∧ InUnit c .setupBit (k + 1) t := by
  have hi : s.bitIndex.toNat + 1 < s.config.width.bits := by rw [h.index, h.config]; exact hk
  exact ⟨_, exec_step_of_seqOp (op := .completeNext) (exec_seqCompleteNext h.configured h.transmit h.phase hi),
    h.configured, h.config, h.transmit, rfl, by rw [bitIndex_succ_toNat hi, h.index], h.ready⟩

/-- The BitComplete STEP of the last bit ends the unit, in Idle with the flag clear and the index kept (R120). -/
theorem InUnit.step_bitComplete_last (h : InUnit c .bitComplete k s) (hk : k + 1 = c.width.bits) :
    ∃ t, exec .step s = .next t ∧ t.dataReady = false ∧ t.phase = .idle ∧ t.bitIndex.toNat = k := by
  have hi : s.bitIndex.toNat + 1 = s.config.width.bits := by rw [h.index, h.config]; exact hk
  exact ⟨_, exec_step_of_seqOp (op := .completeLast) (exec_seqCompleteLast h.configured h.transmit h.phase hi),
    rfl, rfl, h.index⟩

end

/-! The run of a unit. -/

/-- One application more, at the end of a run. -/
theorem iterate_succ_of_next {f : State → Answer} {n : Nat} {s t u : State} (h : iterate f n s = .next t)
    (ht : f t = .next u) : iterate f (n + 1) s = .next u := by
  rw [iterate_add h]
  simp only [iterate, ht]

section
variable {s : State} (hc : s.configured = true) (hd : s.config.dir = 0#2) (hp : s.phase = .idle)
  (hr : s.dataReady = true)
include hc hd hp hr

/-- STEP `3k+1` enters the SetupBit of bit `k` (R123), by induction on the bits before it. -/
theorem iterate_step_setupBit {k : Nat} (hk : k < s.config.width.bits) :
    ∃ t, iterate (exec .step) (3 * k + 1) s = .next t ∧ InUnit s.config .setupBit k t := by
  induction k with
  | zero =>
    obtain ⟨t, hstep, hunit⟩ := exec_step_begins_unit hc hd hp hr
    exact ⟨t, iterate_succ_of_next rfl hstep, hunit⟩
  | succ k ih =>
    obtain ⟨a, hrun, ha⟩ := ih (by omega)
    obtain ⟨b, hab, hb⟩ := ha.step_setupBit
    obtain ⟨d, hbd, hcomplete⟩ := hb.step_clockSettle
    obtain ⟨e, hde, he⟩ := hcomplete.step_bitComplete_next hk
    exact ⟨e, iterate_succ_of_next (iterate_succ_of_next (iterate_succ_of_next hrun hab) hbd) hde, he⟩

/-- The three STEPs `3k+1` to `3k+3` end in bit `k`'s SetupBit, ClockSettle and BitComplete (R123). -/
theorem iterate_step_bit {k : Nat} (hk : k < s.config.width.bits) :
    ∃ a b d, (iterate (exec .step) (3 * k + 1) s = .next a ∧ InUnit s.config .setupBit k a) ∧
      (iterate (exec .step) (3 * k + 2) s = .next b ∧ InUnit s.config .clockSettle k b) ∧
      (iterate (exec .step) (3 * k + 3) s = .next d ∧ InUnit s.config .bitComplete k d) := by
  obtain ⟨a, hrun, ha⟩ := iterate_step_setupBit hc hd hp hr hk
  obtain ⟨b, hab, hb⟩ := ha.step_setupBit
  obtain ⟨d, hbd, hcomplete⟩ := hb.step_clockSettle
  have hrun_b := iterate_succ_of_next hrun hab
  exact ⟨a, b, d, ⟨hrun, ha⟩, ⟨hrun_b, hb⟩, ⟨iterate_succ_of_next hrun_b hbd, hcomplete⟩⟩

end

/-- Settles O41: each bit below `W` takes its three STEPs, and the BitComplete STEP of bit `W - 1` is the STEP
`3W+1` that clears the flag (R123). -/
theorem unitTakesThreeStepsPerBit : Obligations.UnitTakesThreeStepsPerBit := by
  unfold Obligations.UnitTakesThreeStepsPerBit
  intro s hc hd hp hr
  refine ⟨fun k hk => ?_, ?_⟩
  · obtain ⟨a, b, e, ⟨hra, ha⟩, ⟨hrb, hb⟩, ⟨hre, he⟩⟩ := iterate_step_bit hc hd hp hr hk
    exact ⟨a, b, e, hra, ha.phase, ha.index, ha.ready, hrb, hb.phase, hb.index, hb.ready,
      hre, he.phase, he.index, he.ready⟩
  · obtain ⟨k, hW⟩ : ∃ k, s.config.width.bits = k + 1 := by cases s.config.width <;> exact ⟨_, rfl⟩
    obtain ⟨-, -, d, -, -, hrun, hlast⟩ := iterate_step_bit hc hd hp hr (k := k) (by omega)
    obtain ⟨t, hstep, hclear, hidle, hindex⟩ := hlast.step_bitComplete_last hW.symm
    rw [hW]
    exact ⟨t, iterate_succ_of_next hrun hstep, hclear, hidle, by rw [hindex]⟩

end Sys2Proof.Machine
end

section
/-! PROOF. TRANSFER's argument check and its hand-off of one byte (43_hw_transfer.md, R131, R134): which
micro-operation XFER selects there, and the state it answers. -/

namespace Sys2Proof.Machine

open Sys2Proof

/-! The argument check. -/

/-- TRANSFER is the entry micro-operation XENT selects (R130). -/
theorem execTransfer_eq {s : State} {op : EntryOp} (hx : s.xferActive = false)
    (hv : decodeXent (xent s) = some op) : exec .transfer s = exec op.toInstr s := by
  cases op <;> simp only [exec, execTransfer, EntryOp.toInstr, hx, hv, Bool.false_eq_true, if_false]

/-- XENT selects XFER_REJECT where the buffer is absent or the length 0 (R77). -/
theorem decodeXent_xent_reject {s : State} (he : s.request.buffer = none ∨ s.request.length = 0) :
    decodeXent (xent s) = some .reject := by
  obtain hb | hl := he
  · simp [hb]
  · simp [hl]

/-- XFER_REJECT, where XENT selects it, hands over InvalidArgument and does nothing else (R131). -/
theorem exec_xferReject {s : State} (hx : s.xferActive = false) (hv : decodeXent (xent s) = some .reject) :
    exec .xferReject s = .next (returnResult .transfer .invalidArgument s) := by
  simp only [exec, execXferReject, hx, hv, Bool.false_eq_true, if_false, if_true]

/-- Settles O45: either cause of rejection makes XENT select XFER_REJECT, for TRANSFER as for the micro-operation
itself (R131). -/
theorem emptyTransferRejected : Obligations.EmptyTransferRejected := by
  unfold Obligations.EmptyTransferRejected
  rintro s hx he t rfl
  have hv := decodeXent_xent_reject he
  have hmicro := exec_xferReject hx hv
  exact ⟨(execTransfer_eq hx hv).trans hmicro, hmicro⟩

/-! The hand-off of one byte. -/

/-- XLOOP selects XFER_WRITE where bytes remain and the flag is set, whatever the deadline (R133, R156 (c)). -/
theorem decodeXloop_xloop_write {s : State} (hr : s.remaining ≠ 0) (ht : s.txe = true) :
    decodeXloop (xloop s) = some .write := by
  simp [hr, ht]

/-- XFER_WRITE at a byte of the buffer (R134): the byte goes to the data register, and no free value is drawn. -/
theorem exec_xferWrite {s : State} {b : Byte} (hx : s.xferActive = true) (hr : s.remaining ≠ 0)
    (ht : s.txe = true)
    (hread : bufRead s.request (Config.freeBufferByte s.freeCount) s.cursor = some b)
    (hholds : bufHolds s.request s.cursor = true) :
    exec .xferWrite s = .next { drWrite b s with cursor := s.cursor + 1, remaining := s.remaining - 1 } :=
  loopMicro_next.2 ⟨hx, decodeXloop_xloop_write hr ht, by simp [hread, hholds]⟩

/-- While bytes remain the cursor is below `length`: the two add up to it (R37). -/
theorem Inv.cursor_lt_length {s : State} (hinv : Inv s) (hx : s.xferActive = true) (hr : s.remaining ≠ 0) :
    s.cursor < s.request.length := by
  obtain ⟨-, hsum⟩ := hinv.transfer hx
  omega

/-- A well-formed request's `length` is the number of its buffer's bytes (R36). -/
theorem length_eq_of_wellFormed {r : TransferRequest} {bytes : List Byte} (hb : r.buffer = some bytes)
    (hw : r.wellFormed = true) : bytes.length = r.length := by
  simpa [TransferRequest.wellFormed, hb] using hw

/-- Settles O47: the read is the buffer's own byte, so XFER_WRITE completes with it; the invariant puts the cursor
below `length` while bytes remain (R37, R134). -/
theorem xferWriteHandsOffOneByte : Obligations.XferWriteHandsOffOneByte := by
  unfold Obligations.XferWriteHandsOffOneByte
  intro s bytes hx hr ht hb
  refine ⟨fun b hlt hbyte => ?_, fun hinv => ?_⟩
  · obtain ⟨hread, hholds⟩ := bufRead_of_getElem? hb hlt hbyte
    exact exec_xferWrite hx hr ht hread hholds
  · have hlt := hinv.cursor_lt_length hx hr
    refine ⟨hlt, fun hw => ⟨_, List.getElem?_eq_getElem ?_⟩⟩
    rwa [length_eq_of_wellFormed hb hw]

end Sys2Proof.Machine
end

section
/-! PROOF. Encodings (30_encoding.md): the CMD decoder in numbers, the configuration word's two directions, and the
rows of the vector formats. -/

namespace Sys2Proof

/-! Fields of a word. -/

/-- A field of a word, read as a number. -/
theorem extractLsb'_eq_iff {m n start : Nat} {w : BitVec m} {k : BitVec n} :
    w.extractLsb' start n = k ↔ w.toNat / 2 ^ start % 2 ^ n = k.toNat := by
  rw [← BitVec.toNat_inj, BitVec.extractLsb'_toNat, Nat.shiftRight_eq_div_pow]

/-- A word is `p` over its own low bits exactly when `p` is its high part. -/
theorem append_setWidth_eq_iff {m n : Nat} {p : BitVec m} {w : BitVec (m + n)} :
    p ++ w.setWidth n = w ↔ w.toNat / 2 ^ n = p.toNat := by
  have hlt : w.toNat % 2 ^ n < 2 ^ n := Nat.mod_lt _ (Nat.two_pow_pos n)
  have hsplit := Nat.div_add_mod w.toNat (2 ^ n)
  rw [← BitVec.toNat_inj, BitVec.toNat_append, BitVec.toNat_setWidth, ← Nat.shiftLeft_add_eq_or_of_lt hlt,
    Nat.shiftLeft_eq, Nat.mul_comm]
  constructor
  · intro h
    rw [← h]
    simp [Nat.mul_add_div]
  · rintro h
    rw [← h, hsplit]

/-- A mask of ones over zeros tests a word's high part. -/
theorem and_mask_eq_iff {m n : Nat} {p : BitVec m} {w : BitVec (m + n)} :
    w &&& (BitVec.allOnes m ++ 0#n) = p ++ 0#n ↔ w.toNat / 2 ^ n = p.toNat := by
  rw [← append_setWidth_eq_iff]
  constructor
  · intro h
    ext i hi
    have hb : (w &&& (BitVec.allOnes m ++ 0#n))[i] = (p ++ 0#n)[i] := by rw [h]
    clear h
    by_cases hin : i < n <;> simp_all [BitVec.getElem_append]
  · intro h
    rw [← h]
    exact Laws.RowMatches.append_and_mask p _

/-- One bit of a vector is a field of width 1. -/
theorem ofBool_getLsbD {n : Nat} (c : BitVec n) (i : Nat) : BitVec.ofBool (c.getLsbD i) = c.extractLsb' i 1 := by
  ext j hj
  obtain rfl : j = 0 := by omega
  simp

/-- A configuration word is its fields put side by side (R72). -/
theorem encodeCfg_decodeCfg (c : BitVec 12) : encodeCfg (decodeCfg c) = c := by
  have horder : decide ((decodeCfg c).order = .lsbFirst) = c.getLsbD 5 := by
    unfold decodeCfg; cases c.getLsbD 5 <;> rfl
  have hwidth : decide ((decodeCfg c).width = .w16) = c.getLsbD 4 := by
    unfold decodeCfg; cases c.getLsbD 4 <;> rfl
  simp only [encodeCfg, horder, hwidth]
  simp only [decodeCfg, ofBool_getLsbD, BitVec.extractLsb'_append_extractLsb'_eq_extractLsb']
  exact BitVec.extractLsb'_eq_self

/-- `decodeCfg` at the width `encodeCfg`'s pieces add up to, where the lemmas about `++` apply. -/
theorem decodeCfg_append (v : BitVec (1 + 1 + 1 + 1 + 2 + 1 + 1 + 2 + 2)) :
    decodeCfg v =
      { cpol := v.extractLsb' 0 2
        cpha := v.extractLsb' 2 2
        width := if v.getLsbD 4 then .w16 else .w8
        order := if v.getLsbD 5 then .lsbFirst else .msbFirst
        dir := v.extractLsb' 6 2
        sckPresent := v.getLsbD 8
        mosiPresent := v.getLsbD 9
        misoPresent := v.getLsbD 10
        csPresent := v.getLsbD 11 } := rfl

/-- Each field of a configuration word is read back from its place (R72). -/
theorem decodeCfg_encodeCfg (cfg : Cfg) : decodeCfg (encodeCfg cfg) = cfg := by
  obtain ⟨cpol, cpha, width, order, dir, sck, mosi, miso, cs⟩ := cfg
  unfold encodeCfg
  refine (decodeCfg_append _).trans ?_
  simp only [BitVec.getLsbD_append, BitVec.extractLsb'_append_eq_ite]
  cases width <;> cases order <;> simp

/-! The CMD decoder (R71). -/

/-- The command decoder, its fields read as numbers. -/
theorem decodeCmd_eq (w : Word) :
    decodeCmd w =
      if w.toNat / 2 ^ 28 = 1 then
        if w.toNat / 2 ^ 16 % 2 ^ 12 = 0 ∧ w.toNat / 2 ^ 12 % 2 ^ 4 = 0 then
          .ok (.configure (decodeCfg (w.setWidth 12)))
        else .error .mustBeZero
      else if w.toNat / 2 ^ 28 = 2 then
        if w.toNat / 2 ^ 16 % 2 ^ 12 = 0 then .ok (.submit (w.setWidth 16)) else .error .mustBeZero
      else if w.toNat / 2 ^ 28 = 3 then
        if w.toNat / 2 ^ 16 % 2 ^ 12 = 0 ∧ w.toNat % 2 ^ 16 = 0 then .ok .step else .error .mustBeZero
      else if w.toNat / 2 ^ 28 = 4 then
        if w.toNat / 2 ^ 16 % 2 ^ 12 = 0 ∧ w.toNat % 2 ^ 16 = 0 then .ok .transfer else .error .mustBeZero
      else .error .reservedOp := by
  have hop (k : BitVec 4) : w.extractLsb' 28 4 = k ↔ w.toNat / 2 ^ 28 = k.toNat := by
    rw [extractLsb'_eq_iff, Nat.mod_eq_of_lt (by omega)]
  have hhigh : (w.extractLsb' 0 16).extractLsb' 12 4 = 0#4 ↔ w.toNat / 2 ^ 12 % 2 ^ 4 = 0 := by
    simp only [extractLsb'_eq_iff, BitVec.extractLsb'_toNat, BitVec.toNat_ofNat]
    omega
  have hcfg : (w.extractLsb' 0 16).extractLsb' 0 12 = w.setWidth 12 := by
    ext i hi
    simp
  have hunit : w.extractLsb' 0 16 = w.setWidth 16 := by
    ext i hi
    simp
  simp only [decodeCmd, hop, hhigh, hcfg, extractLsb'_eq_iff]
  simp [hunit]

/-- The words that are commands, and what each is (R71, R80). -/
theorem decodeCmd_eq_ok_iff {w : Word} {i : Instr} :
    decodeCmd w = .ok i ↔
      (w.toNat / 2 ^ 12 = 0x10000 ∧ i = .configure (decodeCfg (w.setWidth 12))) ∨
        (w.toNat / 2 ^ 16 = 0x2000 ∧ i = .submit (w.setWidth 16)) ∨
        (w = 0x30000000#32 ∧ i = .step) ∨ (w = 0x40000000#32 ∧ i = .transfer) := by
  rw [decodeCmd_eq]
  constructor
  · intro h
    split_ifs at h <;> cases h
    · exact .inl ⟨by omega, rfl⟩
    · exact .inr (.inl ⟨by omega, rfl⟩)
    · exact .inr (.inr (.inl ⟨by bv_omega, rfl⟩))
    · exact .inr (.inr (.inr ⟨by bv_omega, rfl⟩))
  · rintro (⟨h, rfl⟩ | ⟨h, rfl⟩ | ⟨rfl, rfl⟩ | ⟨rfl, rfl⟩)
    · rw [if_pos (by omega), if_pos ⟨by omega, by omega⟩]
    · rw [if_neg (by omega), if_pos (by omega), if_pos (by omega)]
    · rfl
    · rfl

/-- Settles O6: the masks of R71's rows test a word's high part. -/
theorem commandWordsAreTheFourRows : Obligations.CommandWordsAreTheFourRows := by
  unfold Obligations.CommandWordsAreTheFourRows
  intro w
  have hconfigure : w &&& 0xFFFFF000#32 = 0x10000000#32 ↔ w.toNat / 2 ^ 12 = 0x10000 :=
    and_mask_eq_iff (m := 20) (n := 12) (p := 0x10000#20)
  have hsubmit : w &&& 0xFFFF0000#32 = 0x20000000#32 ↔ w.toNat / 2 ^ 16 = 0x2000 :=
    and_mask_eq_iff (m := 16) (n := 16) (p := 0x2000#16)
  simp only [hconfigure, hsubmit, decodeCmd_eq_ok_iff, exists_or, exists_and_left, exists_eq, and_true]

/-- Settles O7: a command's fixed bits are its high part, and its operand its low part. -/
theorem encodeInvertsDecodeOfCommands : Obligations.EncodeInvertsDecodeOfCommands := by
  unfold Obligations.EncodeInvertsDecodeOfCommands
  intro w i h
  obtain ⟨hw, rfl⟩ | ⟨hw, rfl⟩ | ⟨rfl, rfl⟩ | ⟨rfl, rfl⟩ := decodeCmd_eq_ok_iff.1 h
  · rw [encode, encodeCfg_decodeCfg]
    exact append_setWidth_eq_iff.2 hw
  · exact append_setWidth_eq_iff.2 hw
  · rfl
  · rfl

/-- Decoding a command's encoding gives it back, with every operand (R71, R72). -/
theorem decodeCmd_encode_configure (cfg : Cfg) : decodeCmd (encode (.configure cfg)) = .ok (.configure cfg) := by
  have hlow : (encode (.configure cfg)).setWidth 12 = encodeCfg cfg := BitVec.setWidth_append_eq_right
  have hhigh : (encode (.configure cfg)).toNat / 2 ^ 12 = 0x10000 :=
    append_setWidth_eq_iff.1 (congrArg (0x10000#20 ++ ·) hlow)
  exact decodeCmd_eq_ok_iff.2 (.inl ⟨hhigh, by rw [hlow, decodeCfg_encodeCfg]⟩)

/-- The same for SUBMIT (R71). -/
theorem decodeCmd_encode_submit (unit : UnitWord) : decodeCmd (encode (.submit unit)) = .ok (.submit unit) := by
  have hlow : (encode (.submit unit)).setWidth 16 = unit := BitVec.setWidth_append_eq_right
  have hhigh : (encode (.submit unit)).toNat / 2 ^ 16 = 0x2000 :=
    append_setWidth_eq_iff.1 (congrArg (0x2000#16 ++ ·) hlow)
  exact decodeCmd_eq_ok_iff.2 (.inr (.inl ⟨hhigh, by rw [hlow]⟩))

/-- Settles O5: the commands with an operand by the round trips of their fields, the other rows one by one. -/
theorem decodeInvertsEncode : Obligations.DecodeInvertsEncode := by
  unfold Obligations.DecodeInvertsEncode
  intro i _
  cases i with
  | configure cfg => exact (Machine.decode_cmd _).trans (decodeCmd_encode_configure cfg)
  | submit unit => exact (Machine.decode_cmd _).trans (decodeCmd_encode_submit unit)
  | _ => rfl

/-! The vector formats (R75, R76, R77). -/

/-- Where no vector matches two rows, what a vector selects is the row it matches, in whatever order they stand. -/
theorem lookup_eq_some_iff {n : Nat} {α : Type} {rows : List (Row n α)} {v : BitVec n} {op : α}
    (hdisj : rows.Pairwise fun a b => ∀ v : BitVec n, ¬ (a.hits v = true ∧ b.hits v = true)) :
    lookup rows v = some op ↔ ∃ r ∈ rows, r.hits v = true ∧ r.op = op := by
  induction rows with
  | nil => simp [lookup]
  | cons r rest ih =>
    obtain ⟨hr, hrest⟩ := List.pairwise_cons.1 hdisj
    cases hv : r.hits v with
    | false => simp [lookup, hv, ih hrest]
    | true =>
      have hnone : ∀ r' ∈ rest, r'.hits v = false := fun r' hr' => by simpa [hv] using hr r' hr' v
      simp +contextual [lookup, hv, hnone]

/-- A vector's test of a row, said of the word it stands in. -/
theorem hits_setWidth_iff {n : Nat} {α : Type} {r : Row n α} {w : Word} (hn : n ≤ 32) :
    r.hits (w.setWidth n) = true ↔ w &&& r.mask.setWidth 32 = r.pattern.setWidth 32 := by
  rw [Row.hits, beq_iff_eq]
  constructor
  · intro h
    have hmask : ∀ i, r.mask.getLsbD i = true → i < n := fun i => BitVec.lt_of_getLsbD
    rw [← h]
    ext i hi
    cases hm : r.mask.getLsbD i <;> simp [hm, hmask i, BitVec.getLsbD_eq_getElem hi]
  · intro h
    have hlow := congrArg (BitVec.setWidth n) h
    simpa [hn] using hlow

/-- A vector of a format with the given rows decodes to the instruction of the row its word matches. -/
theorem decode_eq_ok_iff {n : Nat} {f : Format} {α : Type} {rows : List (Row n α)} {toInstr : α → Instr} {w : Word}
    {i : Instr} (hbits : f.bits = n) (hn : n ≤ 32)
    (hdecode : ¬ 2 ^ n ≤ w.toNat → decode f w = vectorAnswer ((lookup rows (w.setWidth n)).map toInstr))
    (hdisj : rows.Pairwise fun a b => ∀ v : BitVec n, ¬ (a.hits v = true ∧ b.hits v = true)) :
    decode f w = .ok i ↔ w.toNat < 2 ^ n ∧
      ∃ r ∈ rows, i = toInstr r.op ∧ w &&& r.mask.setWidth 32 = r.pattern.setWidth 32 := by
  by_cases hw : 2 ^ n ≤ w.toNat
  · have hhigh : decode f w = .error .mustBeZero := if_pos (hbits ▸ hw)
    simp [hhigh, Nat.not_lt.2 hw]
  · have hok : ∀ o : Option α, vectorAnswer (o.map toInstr) = .ok i ↔ ∃ op, o = some op ∧ i = toInstr op := by
      rintro (_ | op) <;> simp [vectorAnswer, eq_comm]
    simp only [hdecode hw, hok, lookup_eq_some_iff hdisj, hits_setWidth_iff hn, Nat.not_le.1 hw, true_and]
    constructor
    · rintro ⟨op, ⟨r, hr, hhit, rfl⟩, hi⟩; exact ⟨r, hr, hi, hhit⟩
    · rintro ⟨r, hr, hi, hhit⟩; exact ⟨r.op, ⟨r, hr, hhit, rfl⟩, hi⟩

/-- A mask of all the bits a word can have tests the word itself. -/
theorem and_low_mask {w mask : Word} {n : Nat} (hm : mask.toNat = 2 ^ n - 1) (hw : w.toNat < 2 ^ n) :
    w &&& mask = w := by
  rw [← BitVec.toNat_inj, BitVec.toNat_and, hm, Nat.and_two_pow_sub_one_eq_mod, Nat.mod_eq_of_lt hw]

/-- In a format of one bit the mask tests the whole word. -/
theorem one_bit_rows_iff {w : Word} {p q : Prop} :
    w.toNat < 2 ^ 1 ∧ (p ∧ w &&& 1#32 = 1#32 ∨ q ∧ w &&& 1#32 = 0#32) ↔ p ∧ w = 1#32 ∨ q ∧ w = 0#32 := by
  constructor
  · rintro ⟨hw, h⟩
    rwa [and_low_mask (n := 1) rfl hw] at h
  · rintro (⟨hp, rfl⟩ | ⟨hq, rfl⟩)
    · exact ⟨by decide, .inl ⟨hp, rfl⟩⟩
    · exact ⟨by decide, .inr ⟨hq, rfl⟩⟩

/-- Settles O9: the rows of each table are disjoint, so a vector decodes to the one it matches; a mask of all a
format's bits tests the word itself. -/
theorem vectorWordsAreTheirRows : Obligations.VectorWordsAreTheirRows := by
  unfold Obligations.VectorWordsAreTheirRows
  intro w i
  refine ⟨?_, ?_, ?_, ?_⟩
  · rw [decode_eq_ok_iff (f := .seqv) (rows := seqvRows) (toInstr := SeqOp.toInstr) (w := w) (i := i) rfl (by decide)
      (fun h => if_neg h) Machine.seqvRows_disjoint]
    simp [seqvRows, SeqOp.toInstr]
  · rw [decode_eq_ok_iff (f := .subv) (rows := subvRows) (toInstr := SubOp.toInstr) (w := w) (i := i) rfl (by decide)
      (fun h => if_neg h) (by decide), ← one_bit_rows_iff]
    simp [subvRows, SubOp.toInstr]
  · rw [decode_eq_ok_iff (f := .xent) (rows := xentRows) (toInstr := EntryOp.toInstr) (w := w) (i := i) rfl (by decide)
      (fun h => if_neg h) (by decide), ← one_bit_rows_iff]
    simp [xentRows, EntryOp.toInstr]
  · rw [decode_eq_ok_iff (f := .xloop) (rows := xloopRows) (toInstr := LoopOp.toInstr) (w := w) (i := i) rfl (by decide)
      (fun h => if_neg h) (by decide)]
    refine and_congr_right fun hw => ?_
    have hmask : w &&& 7#32 = w := and_low_mask (n := 3) rfl hw
    simp [xloopRows, LoopOp.toInstr, hmask]

/-- A SEQV vector with a reserved phase code and no direction bit, or in BitComplete past the last bit, has no
row (R80). -/
theorem decodeSeqv_eq_none (v : BitVec 8) :
    (v.toNat < 2 ^ 7 ∧ 5 ≤ v.toNat / 2 ^ 4) ∨ (v.toNat / 2 ^ 4 = 3 ∧ 2 ≤ v.toNat % 2 ^ 2) → decodeSeqv v = none := by
  revert v
  decide

/-- Settles O8: a reserved operation code misses every test of `decodeCmd`, a bit that must be 0 fails the test of
its row; the reserved vectors have no row. -/
theorem reservedWordsRejectedByName : Obligations.ReservedWordsRejectedByName := by
  unfold Obligations.ReservedWordsRejectedByName
  intro w
  have hnoRow (h : (w.toNat < 2 ^ 7 ∧ 5 ≤ w.toNat / 2 ^ 4) ∨ (w.toNat / 2 ^ 4 = 3 ∧ 2 ≤ w.toNat % 2 ^ 2)) :
      decode .seqv w = .error .noRow := by
    have hw : w.toNat < 2 ^ 8 := by omega
    have hnone := decodeSeqv_eq_none (w.setWidth 8) (by rwa [BitVec.toNat_setWidth, Nat.mod_eq_of_lt hw])
    have hdecode : decode .seqv w = vectorAnswer ((decodeSeqv (w.setWidth 8)).map SeqOp.toInstr) :=
      if_neg (Nat.not_le.2 hw)
    rw [hdecode, hnone]
    rfl
  refine ⟨fun h => ?_, fun h1 h4 hz => ?_, fun h hz => ?_, fun h hz => ?_, fun f h => if_pos h,
    fun hw hp => hnoRow (.inl ⟨hw, hp⟩), fun hp hcc => hnoRow (.inr ⟨hp, hcc⟩)⟩
  · rw [decodeCmd_eq, if_neg (by omega), if_neg (by omega), if_neg (by omega), if_neg (by omega)]
  · obtain h | h | h | h : w.toNat / 2 ^ 28 = 1 ∨ w.toNat / 2 ^ 28 = 2 ∨ w.toNat / 2 ^ 28 = 3 ∨
        w.toNat / 2 ^ 28 = 4 := by omega
    all_goals simp [-Nat.reducePow, decodeCmd_eq, h, hz]
  · simp [-Nat.reducePow, decodeCmd_eq, h, hz]
  · obtain h | h := h <;> simp [-Nat.reducePow, decodeCmd_eq, h, hz]

/-- Settles O4: each word is closed, so its decoder runs on it. -/
theorem knownWordsDecode : Obligations.KnownWordsDecode := by
  unfold Obligations.KnownWordsDecode
  decide

end Sys2Proof
end

section
/-! PROOF. The bit-order multiplexer (41_submit.md, R101, R104), bit by bit. -/

namespace Sys2Proof.Machine

open Sys2Proof

/-- `reverse_bits` bit by bit (R101). -/
theorem getLsbD_reverseBits (v : UnitWord) (w : Width) (i : Nat) :
    (reverseBits v w).getLsbD i = (decide (i < w.bits) && v.getLsbD (w.bits - 1 - i)) := by
  cases w with
  | w8 =>
    simp only [reverseBits, Width.bits, BitVec.getLsbD_setWidth, BitVec.getLsbD_reverse, BitVec.getMsbD_eq_getLsbD]
    by_cases hi : i < 8
    · simp [hi, show i < 16 by omega, show 7 - i < 8 by omega]
    · simp [hi]
  | w16 => exact BitVec.getLsbD_reverse.trans (BitVec.getMsbD_eq_getLsbD v i)

/-- The LSB-first side of the multiplexer bit by bit (R104). -/
theorem getLsbD_lowBits (v : UnitWord) (w : Width) (i : Nat) :
    (lowBits w v).getLsbD i = (decide (i < w.bits) && v.getLsbD i) := by
  cases w with
  | w8 =>
    simp only [lowBits, Width.bits, BitVec.getLsbD_setWidth]
    by_cases hi : i < 8
    · simp [hi, show i < 16 by omega]
    · simp [hi]
  | w16 =>
    by_cases hi : i < 16
    · simp [lowBits, Width.bits, hi]
    · simpa [lowBits, Width.bits, hi] using BitVec.getLsbD_of_ge v i (by omega)

/-- What SUBMIT loads has no bit above the unit (R104, R33 (d)). -/
theorem getLsbD_wireValue_of_ge (c : SpiConfig) (unit : UnitWord) {i : Nat} (hi : c.width.bits ≤ i) :
    (wireValue c unit).getLsbD i = false := by
  unfold wireValue
  cases c.order <;> simp [getLsbD_reverseBits, getLsbD_lowBits, Nat.not_lt.2 hi]

/-- A value of `w` bits has no bit at `w` or above. -/
theorem getLsbD_of_lt_two_pow {v : UnitWord} {w i : Nat} (hv : v.toNat < 2 ^ w) (hi : w ≤ i) :
    v.getLsbD i = false :=
  Nat.testBit_lt_two_pow (hv.trans_le (Nat.pow_le_pow_right (by decide) hi))

/-- Settles O16: the two halves of `getLsbD_reverseBits`. -/
theorem reverseBitsBitByBit : Obligations.ReverseBitsBitByBit := by
  unfold Obligations.ReverseBitsBitByBit
  intro v w i
  refine ⟨fun hi => ?_, fun hi => ?_⟩
  · simp [getLsbD_reverseBits, hi]
  · simp [getLsbD_reverseBits, Nat.not_lt.2 hi]

/-- Settles O17: below `w` the two index reversals cancel, above it both sides are zero. -/
theorem reverseBitsUndoesItself : Obligations.ReverseBitsUndoesItself := by
  unfold Obligations.ReverseBitsUndoesItself
  intro v w hv
  refine BitVec.eq_of_getLsbD_eq fun i _ => ?_
  rw [getLsbD_reverseBits, getLsbD_reverseBits]
  by_cases hi : i < w.bits
  · have hback : w.bits - 1 - (w.bits - 1 - i) = i := by omega
    have hrev : w.bits - 1 - i < w.bits := by omega
    simp [hi, hrev, hback]
  · simp [hi, getLsbD_of_lt_two_pow hv (Nat.not_lt.1 hi)]

/-- Settles O18: the reversal has no bit above the unit, so keeping its low bits keeps all of it. -/
theorem bitOrderLaw : Obligations.BitOrderLaw := by
  unfold Obligations.BitOrderLaw
  intro c v
  refine ⟨BitVec.eq_of_getLsbD_eq fun i _ => ?_, fun i => getLsbD_lowBits v c.width i⟩
  simp only [wireValue, getLsbD_lowBits, getLsbD_reverseBits]
  cases decide (i < c.width.bits) <;> rfl

end Sys2Proof.Machine
end

section
/-! PROOF. CONFIGURE (40_configure.md, R91 to R94): its three tests in numbers, and its four answers. -/

namespace Sys2Proof.Machine

open Sys2Proof

section
variable {cfg : Cfg} {s : State}

/-! The three tests. -/

/-- Validation in numbers (R91). -/
theorem cfg_valid_iff : cfg.valid = true ↔ cfg.cpol.toNat ≤ 1 ∧ cfg.cpha.toNat ≤ 1 ∧ cfg.sckPresent = true := by
  simp [Cfg.valid, BitVec.ule_eq_decide, and_assoc]

/-- A CONFIGURE is admitted before the first one, and then with nothing in flight or in Error (R94). -/
theorem configureAdmitted_iff :
    configureAdmitted s = true ↔ s.configured = false ∨
      (s.submitUnit = none ∧ ((s.phase = .idle ∧ s.dataReady = false) ∨ s.phase = .error)) := by
  simp [configureAdmitted]

theorem pinsDistinct_iff {pins : PinOperands} : cfg.pinsDistinct pins = true ↔ (cfg.boundPins pins).Nodup :=
  decide_eq_true_iff

/-! The answers, in the order of the tests (log 13). -/

theorem exec_configure_invalid (hv : cfg.valid = false) :
    exec (.configure cfg) s = .next (returnResult .configure .invalidConfiguration s) := by
  simp [exec, execConfigure, hv]

theorem exec_configure_inFlight (hv : cfg.valid = true) (ha : configureAdmitted s = false) :
    exec (.configure cfg) s = .refused .configureInFlight := by
  simp [exec, execConfigure, hv, ha]

theorem exec_configure_notDistinct (hv : cfg.valid = true) (ha : configureAdmitted s = true)
    (hd : cfg.pinsDistinct s.pinOperands = false) :
    exec (.configure cfg) s = .refused .pinsNotDistinct := by
  simp [exec, execConfigure, hv, ha, hd]

theorem exec_configure_ok (hv : cfg.valid = true) (ha : configureAdmitted s = true)
    (hd : cfg.pinsDistinct s.pinOperands = true) :
    exec (.configure cfg) s = .next (returnResult .configure .ok (configureEngine cfg s)) := by
  simp [exec, execConfigure, hv, ha, hd]

/-! The engine a successful CONFIGURE sets up. -/

/-- Data-out is written where it is bound. -/
theorem pinWrite_mosi_eq (l : Level) (s : State) :
    pinWrite .mosi l s =
      { s with
        pins := { s.pins with mosi := if s.config.mosiPin.isSome then some l else s.pins.mosi }
        pinTrace := s.pinTrace ++ pinEvents s.config .mosi l } := by
  cases h : s.config.mosiPin <;> simp [pinWrite, pinEvents, SpiConfig.pinOf, PinSpace.set, h]

/-- A successful CONFIGURE's effects, the guarded writes carried out (R92). -/
theorem configureEngine_eq {c : SpiConfig} (hc : c = spiConfigOf cfg s.pinOperands) :
    configureEngine cfg s =
      { s with
        configured := true
        config := c
        directions := directionsOf c
        pins :=
          { sck := some c.cpol
            mosi := if c.mosiPin.isSome then some false else none
            cs := if c.csPin.isSome then some (!s.params.csActiveLevel) else none }
        pinTrace := s.pinTrace ++ pinEvents c .sck c.cpol ++ pinEvents c .cs (!s.params.csActiveLevel) ++
          pinEvents c .mosi false
        phase := .idle
        bitIndex := 0#4
        shiftRegister := 0#16
        dataReady := false } := by
  subst hc
  simp only [configureEngine, pinWrite_mosi_eq, pinWrite_cs_eq, pinWrite_sck_eq]
  rfl

end

/-! The obligations. -/

/-- Settles O12: the three tests pass, and the pins present in the word are those SpiConfig holds. -/
theorem configureInstallsAndResets : Obligations.ConfigureInstallsAndResets := by
  unfold Obligations.ConfigureInstallsAndResets
  intro cfg s hcpol hcpha hsck hfree hdistinct c hc
  have hok := exec_configure_ok (cfg_valid_iff.2 ⟨hcpol, hcpha, hsck⟩) (configureAdmitted_iff.2 hfree)
    (pinsDistinct_iff.2 hdistinct)
  have hmosi : c.mosiPin = if cfg.mosiPresent then some s.pinOperands.mosi else none := by rw [hc]
  have hmiso : c.misoPin = if cfg.misoPresent then some s.pinOperands.miso else none := by rw [hc]
  have hcs : c.csPin = if cfg.csPresent then some s.pinOperands.cs else none := by rw [hc]
  rw [hok, configureEngine_eq hc]
  simp only [returnResult, directionsOf, hmosi, hmiso, hcs]
  cases cfg.mosiPresent <;> cases cfg.misoPresent <;> cases cfg.csPresent <;> rfl

/-- Settles O13: validation is the first test (R91). -/
theorem invalidConfigureChangesNothing : Obligations.InvalidConfigureChangesNothing := by
  unfold Obligations.InvalidConfigureChangesNothing
  intro cfg s h
  refine exec_configure_invalid (Bool.eq_false_iff.2 fun hv => ?_)
  obtain ⟨hcpol, hcpha, hsck⟩ := cfg_valid_iff.1 hv
  obtain h | h | h := h
  · omega
  · omega
  · simp [hsck] at h

/-- Settles O14: with validation passed, the test of R94 fails first, and that of R51 where it passed. -/
theorem configureRefusals : Obligations.ConfigureRefusals := by
  unfold Obligations.ConfigureRefusals
  intro cfg s hcpol hcpha hsck
  have hv : cfg.valid = true := cfg_valid_iff.2 ⟨hcpol, hcpha, hsck⟩
  refine ⟨fun hc hbusy => ?_, fun hfree hshared => ?_⟩
  · refine exec_configure_inFlight hv (Bool.eq_false_iff.2 fun ha => ?_)
    obtain hnot | ⟨hunit, hphase⟩ := configureAdmitted_iff.1 ha
    · simp [hc] at hnot
    · obtain hwait | ⟨herr, hflight⟩ := hbusy
      · simp [hunit] at hwait
      · obtain ⟨hidle, hready⟩ | herror := hphase
        · simp [hidle, hready] at hflight
        · exact herr herror
  · exact exec_configure_notDistinct hv (configureAdmitted_iff.2 hfree)
      (Bool.eq_false_iff.2 fun hd => hshared (pinsDistinct_iff.1 hd))

end Sys2Proof.Machine
end

section
/-! PROOF. What an instruction can do: the agent whose micro-operation completes, and the part of the state each agent
writes (10_state.md, R22, R27; 60_exceptions.md, R164). -/

namespace Sys2Proof.Machine

open Sys2Proof

/-! Each instruction that completes is a CONFIGURE or one micro-operation of one agent. -/

/-- Everything one instruction can do. SUB's micro-operation runs with the operand of the call in progress, which
SUBMIT has just begun or which stood there before. -/
theorem exec_cases {i : Instr} {s t : State} (h : exec i s = .next t) :
    (∃ cfg, i = .configure cfg) ∨ (∃ op : SeqOp, exec op.toInstr s = .next t) ∨
      (∃ (unit : Option UnitWord) (op : SubOp), exec op.toInstr { s with submitUnit := unit } = .next t) ∨
      (∃ op : EntryOp, exec op.toInstr s = .next t) ∨ ∃ op : LoopOp, exec op.toInstr s = .next t := by
  cases i with
  | configure cfg => exact .inl ⟨cfg, rfl⟩
  | submit unit => exact .inr (.inr (.inl ⟨some unit, exists_subOp_of_exec_submit h⟩))
  | step => exact .inr (.inl (exists_seqOp_of_exec_step h))
  | transfer => exact .inr (.inr (.inr (.inl (exists_entryOp_of_exec_transfer h))))
  | seqErrEnter => exact .inr (.inl ⟨.errEnter, h⟩)
  | seqErrHold => exact .inr (.inl ⟨.errHold, h⟩)
  | seqIdleHold => exact .inr (.inl ⟨.idleHold, h⟩)
  | seqIdleStart => exact .inr (.inl ⟨.idleStart, h⟩)
  | seqSetupFirst => exact .inr (.inl ⟨.setupFirst, h⟩)
  | seqSetupNext => exact .inr (.inl ⟨.setupNext, h⟩)
  | seqSettle => exact .inr (.inl ⟨.settle, h⟩)
  | seqCompleteNext => exact .inr (.inl ⟨.completeNext, h⟩)
  | seqCompleteLast => exact .inr (.inl ⟨.completeLast, h⟩)
  | subWait => exact .inr (.inr (.inl ⟨s.submitUnit, .wait, h⟩))
  | subLoad => exact .inr (.inr (.inl ⟨s.submitUnit, .load, h⟩))
  | xferReject => exact .inr (.inr (.inr (.inl ⟨.reject, h⟩)))
  | xferBegin => exact .inr (.inr (.inr (.inl ⟨.begin, h⟩)))
  | xferDone => exact .inr (.inr (.inr (.inr ⟨.done, h⟩)))
  | xferWrite => exact .inr (.inr (.inr (.inr ⟨.write, h⟩)))
  | xferWait => exact .inr (.inr (.inr (.inr ⟨.wait, h⟩)))
  | xferTimeout => exact .inr (.inr (.inr (.inr ⟨.timeout, h⟩)))

/-! The frame of each agent. -/

/-- SetupBit proper, its guarded writes carried out (R116, R117). -/
theorem shiftOut_eq (s : State) :
    shiftOut s =
      { s with
        phase := .clockSettle
        shiftRegister := s.shiftRegister >>> 1
        pins :=
          { s.pins with
            sck := some (leadLevel s.params s.config.cpol s.config.cpha)
            mosi := if s.config.mosiPin.isSome then some (s.shiftRegister.getLsbD 0) else s.pins.mosi }
        pinTrace := s.pinTrace ++ pinEvents s.config .mosi (s.shiftRegister.getLsbD 0) ++
          pinEvents s.config .sck (leadLevel s.params s.config.cpol s.config.cpha) } := by
  simp only [shiftOut, pinWrite_mosi_eq, pinWrite_sck_eq]
  rfl

/-- SEQ writes EngineState, the pin space and the pin trace (R110). -/
theorem seqOp_frame {op : SeqOp} {s t : State} (h : exec op.toInstr s = .next t) :
    t = { s with
          phase := t.phase
          bitIndex := t.bitIndex
          shiftRegister := t.shiftRegister
          dataReady := t.dataReady
          pins := t.pins
          pinTrace := t.pinTrace } := by
  cases op <;> obtain ⟨-, -, rfl⟩ := seqMicro_next.1 h
  case setupFirst => rw [pinWrite_cs_eq, shiftOut_eq]
  case setupNext => rw [shiftOut_eq]
  case completeLast => rw [pinWrite_cs_eq]
  all_goals rfl

/-- SUB writes the shift register, `bit_index`, `data_ready` and the call in progress (R102, R103). -/
theorem subOp_frame {op : SubOp} {s t : State} (h : exec op.toInstr s = .next t) :
    t = { s with
          shiftRegister := t.shiftRegister
          bitIndex := t.bitIndex
          dataReady := t.dataReady
          submitUnit := t.submitUnit } := by
  cases op <;> obtain ⟨-, -, unit, -, rfl⟩ := subMicro_next.1 h <;> rfl

/-- XFER's entry writes the working registers, the mode and the results (R131, R132). -/
theorem entryOp_frame {op : EntryOp} {s t : State} (h : exec op.toInstr s = .next t) :
    t = { s with
          startTick := t.startTick
          cursor := t.cursor
          remaining := t.remaining
          xferActive := t.xferActive
          txOnly := t.txOnly
          results := t.results } := by
  cases op with
  | reject => simp only [EntryOp.toInstr, exec, execXferReject] at h; split_ifs at h; cases h; rfl
  | begin => simp only [EntryOp.toInstr, exec, execXferBegin] at h; split_ifs at h; cases h; rfl

/-- XFER's loop writes the working registers, the peripheral, the results and the draws (R134 to R137). -/
theorem loopOp_frame {op : LoopOp} {s t : State} (h : exec op.toInstr s = .next t) :
    t = { s with
          cursor := t.cursor
          remaining := t.remaining
          xferActive := t.xferActive
          txOnly := t.txOnly
          dataRegister := t.dataRegister
          drTrace := t.drTrace
          results := t.results
          freeCount := t.freeCount } := by
  cases op <;> obtain ⟨-, -, ha⟩ := loopMicro_next.1 h
  case write => split at ha <;> cases ha; rfl
  all_goals cases ha; rfl

/-! The obligations. -/

/-- Settles O39: STEP is one of SEQ's micro-operations, and each keeps SEQ's frame. -/
theorem sequencerFrame : Obligations.SequencerFrame := by
  unfold Obligations.SequencerFrame
  rintro i s t (rfl | rfl | rfl | rfl | rfl | rfl | rfl | rfl | rfl | rfl) h
  · obtain ⟨op, hop⟩ := exists_seqOp_of_exec_step h
    exact seqOp_frame hop
  · exact seqOp_frame (op := .errEnter) h
  · exact seqOp_frame (op := .errHold) h
  · exact seqOp_frame (op := .idleHold) h
  · exact seqOp_frame (op := .idleStart) h
  · exact seqOp_frame (op := .setupFirst) h
  · exact seqOp_frame (op := .setupNext) h
  · exact seqOp_frame (op := .settle) h
  · exact seqOp_frame (op := .completeNext) h
  · exact seqOp_frame (op := .completeLast) h

/-- Settles O24: SUBMIT only begins the call before it runs a SUB micro-operation. -/
theorem submitFrame : Obligations.SubmitFrame := by
  unfold Obligations.SubmitFrame
  rintro i s t (⟨unit, rfl⟩ | rfl | rfl) h
  · obtain ⟨op, hop⟩ := exists_subOp_of_exec_submit h
    rw [subOp_frame hop]
  · exact subOp_frame (op := .wait) h
  · exact subOp_frame (op := .load) h

/-- Settles O54: TRANSFER is one of XFER's entry micro-operations. -/
theorem transferFrame : Obligations.TransferFrame := by
  unfold Obligations.TransferFrame
  rintro i s t (rfl | rfl | rfl | rfl | rfl | rfl | rfl) h
  · obtain ⟨op, hop⟩ := exists_entryOp_of_exec_transfer h
    rw [entryOp_frame hop]
  · rw [entryOp_frame (op := .reject) h]
  · rw [entryOp_frame (op := .begin) h]
  · rw [loopOp_frame (op := .done) h]
  · rw [loopOp_frame (op := .write) h]
  · rw [loopOp_frame (op := .wait) h]
  · rw [loopOp_frame (op := .timeout) h]

/-- Settles O15: the frames of the three agents leave SpiConfig, the handle and the directions alone, and a CONFIGURE
that fails validation only answers (R91). -/
theorem spiConfigWrittenByConfigureOnly : Obligations.SpiConfigWrittenByConfigureOnly := by
  unfold Obligations.SpiConfigWrittenByConfigureOnly
  intro i s t h
  obtain ⟨cfg, rfl⟩ | ⟨op, hop⟩ | ⟨unit, op, hop⟩ | ⟨op, hop⟩ | ⟨op, hop⟩ := exec_cases h
  · cases hv : cfg.valid with
    | true => exact .inl ⟨cfg, rfl, hv⟩
    | false =>
      rw [exec_configure_invalid hv] at h
      cases h
      exact .inr ⟨rfl, rfl, rfl⟩
  · rw [seqOp_frame hop]; exact .inr ⟨rfl, rfl, rfl⟩
  · rw [subOp_frame hop]; exact .inr ⟨rfl, rfl, rfl⟩
  · rw [entryOp_frame hop]; exact .inr ⟨rfl, rfl, rfl⟩
  · rw [loopOp_frame hop]; exact .inr ⟨rfl, rfl, rfl⟩

/-- A SEQ micro-operation in Error changes nothing: STEP would be the same one, and STEP changes nothing there
(R121, R122). -/
theorem eq_of_seqOp_error {op : SeqOp} {s t : State} (hc : s.configured = true) (hp : s.phase = .error)
    (h : exec op.toInstr s = .next t) : s = t := by
  simpa [exec_step_error hc hp] using exec_step_of_seqOp h

/-- Settles O38: SEQ stands still in Error, and SUB and XFER write no phase. -/
theorem errorLeftByConfigureOnly : Obligations.ErrorLeftByConfigureOnly := by
  unfold Obligations.ErrorLeftByConfigureOnly
  intro i s t hc hp h hne
  obtain ⟨cfg, rfl⟩ | ⟨op, hop⟩ | ⟨unit, op, hop⟩ | ⟨op, hop⟩ | ⟨op, hop⟩ := exec_cases h
  · exact ⟨cfg, rfl⟩
  · rw [← eq_of_seqOp_error hc hp hop] at hne; exact absurd hp hne
  · rw [subOp_frame hop] at hne; exact absurd hp hne
  · rw [entryOp_frame hop] at hne; exact absurd hp hne
  · rw [loopOp_frame hop] at hne; exact absurd hp hne

end Sys2Proof.Machine
end

section
/-! PROOF. SUBMIT (41_submit.md, R100 to R107): which SUB micro-operation a call makes run, and the state it answers. -/

namespace Sys2Proof.Machine

open Sys2Proof

/-- SUBMIT begins the call and runs the SUB micro-operation the flag selects (R100). -/
theorem exec_submit_eq {unit : UnitWord} {s : State} (hc : s.configured = true) (hu : s.submitUnit = none) :
    exec (.submit unit) s =
      exec (if s.dataReady then .subWait else .subLoad) { s with submitUnit := some unit } := by
  simp only [exec, execSubmit, hc, hu, decodeSubv_subv]
  cases s.dataReady <;> rfl

/-- SUB_LOAD, where a call waits and the flag is clear (R103). -/
theorem exec_subLoad {unit : UnitWord} {s : State} (hc : s.configured = true) (hu : s.submitUnit = some unit)
    (hd : s.dataReady = false) :
    exec .subLoad s = .next
      { s with
        shiftRegister := wireValue s.config unit, bitIndex := 0#4, dataReady := true, submitUnit := none } :=
  subMicro_next.2 ⟨hc, by simp [hd], unit, hu, rfl⟩

/-- Settles O23: the whole effect of `exec_subLoad`. -/
theorem subLoadLoadsTheWaitingUnit : Obligations.SubLoadLoadsTheWaitingUnit := by
  unfold Obligations.SubLoadLoadsTheWaitingUnit
  intro unit s hc hu hd
  exact exec_subLoad hc hu hd

/-- Settles O19: the call begins and SUB_LOAD ends it, so no call is in progress, as before. -/
theorem submitLoadsAFreeEngine : Obligations.SubmitLoadsAFreeEngine := by
  unfold Obligations.SubmitLoadsAFreeEngine
  intro unit s hc hu hd
  rw [exec_submit_eq hc hu, if_neg (by simp [hd]),
    exec_subLoad (s := { s with submitUnit := some unit }) hc rfl hd, hu]

/-- Settles O20: SUB_WAIT writes nothing, so the begun call is the one change (R102). -/
theorem submitWaitsForABusyEngine : Obligations.SubmitWaitsForABusyEngine := by
  unfold Obligations.SubmitWaitsForABusyEngine
  intro unit s hc hu hd
  rw [exec_submit_eq hc hu, if_pos hd]
  exact exec_subWait_waiting (s := { s with submitUnit := some unit }) hc rfl hd

/-- Settles O21: a call in progress is tested before SUBV is formed (R40). -/
theorem secondSubmitRefused : Obligations.SecondSubmitRefused := by
  unfold Obligations.SecondSubmitRefused
  intro unit s hc hu
  simp [exec, execSubmit, hc, hu]

/-- Settles O11: the handle is the first test of both (R21). -/
theorem unconfiguredEngineRefusesSubmitAndStep : Obligations.UnconfiguredEngineRefusesSubmitAndStep := by
  unfold Obligations.UnconfiguredEngineRefusesSubmitAndStep
  intro s hc
  exact ⟨by simp [exec, execStep, hc], fun unit => by simp [exec, execSubmit, hc]⟩

end Sys2Proof.Machine
end

section
/-! PROOF. The sequencer's dispatch (42_step_fsm.md, R111) and its micro-operations in Idle, SetupBit and Error (R112,
R114 to R117, R121, R122). -/

namespace Sys2Proof.Machine

open Sys2Proof

/-! What SEQ selects, where the earlier lemmas do not say it. -/

/-- The direction is tested first (D6). -/
theorem decodeSeqv_seqv_receive {s : State} (hd : s.config.dir ≠ 0#2) : decodeSeqv (seqv s) = some .errEnter := by
  simp [decodeSeqv_seqv, SpiConfig.transmitOnly, hd, selected]

theorem decodeSeqv_seqv_errHold {s : State} (hd : s.config.dir = 0#2) (hp : s.phase = .error) :
    decodeSeqv (seqv s) = some .errHold := by
  rw [decodeSeqv_seqv_transmit hd, hp]; rfl

theorem decodeSeqv_seqv_idle_free {s : State} (hd : s.config.dir = 0#2) (hp : s.phase = .idle)
    (hr : s.dataReady = false) : decodeSeqv (seqv s) = some .idleHold := by
  rw [decodeSeqv_seqv_transmit hd, hp, hr]; rfl

/-- Past the last bit no row is left (R80). -/
theorem decodeSeqv_seqv_past_last_bit {s : State} (hd : s.config.dir = 0#2) (hp : s.phase = .bitComplete)
    (hi : s.config.width.bits < s.bitIndex.toNat + 1) : decodeSeqv (seqv s) = none := by
  have hcc : compareField s = 2#2 := by
    simp only [compareField, if_neg (Nat.not_lt.2 hi.le), if_neg hi.ne']
  rw [decodeSeqv_seqv_transmit hd, hp, hcc]; rfl

/-- Settles O26: in each case SEQ selects that micro-operation, and STEP runs what SEQ selects. -/
theorem stepSelectsOneMicroOperation : Obligations.StepSelectsOneMicroOperation := by
  unfold Obligations.StepSelectsOneMicroOperation
  intro s hc
  by_cases hd : s.config.dir = 0#2
  case neg => rw [if_pos hd, execStep_eq hc (decodeSeqv_seqv_receive hd)]; rfl
  rw [if_neg (not_not.2 hd)]
  cases hp : s.phase with
  | error => exact execStep_eq hc (decodeSeqv_seqv_errHold hd hp)
  | idle =>
    cases hr : s.dataReady with
    | true => exact execStep_eq hc (decodeSeqv_seqv_idle_ready hd hp hr)
    | false => exact execStep_eq hc (decodeSeqv_seqv_idle_free hd hp hr)
  | setupBit =>
    rw [execStep_eq hc (decodeSeqv_seqv_setupBit hd hp)]
    by_cases h0 : s.bitIndex = 0#4 <;> simp only [h0, if_true, if_false] <;> rfl
  | clockSettle => exact execStep_eq hc (decodeSeqv_seqv_clockSettle hd hp)
  | bitComplete =>
    obtain hlt | heq | hgt := Nat.lt_trichotomy (s.bitIndex.toNat + 1) s.config.width.bits
    · simp only [if_pos hlt]
      exact execStep_eq hc (decodeSeqv_seqv_next_bit hd hp hlt)
    · simp only [heq, lt_self_iff_false, if_false, if_true]
      exact execStep_eq hc (decodeSeqv_seqv_last_bit hd hp heq)
    · simp only [if_neg (Nat.not_lt.2 hgt.le), if_neg hgt.ne']
      simp [exec, execStep, hc, decodeSeqv_seqv_past_last_bit hd hp hgt]

/-! The states the micro-operations answer. -/

section
variable {s : State} (hc : s.configured = true)
include hc

/-- SEQ_ERR_ENTER (R121). -/
theorem exec_seqErrEnter (hd : s.config.dir ≠ 0#2) : exec .seqErrEnter s = .next { s with phase := .error } :=
  seqMicro_next.2 ⟨hc, decodeSeqv_seqv_receive hd, rfl⟩

/-- SEQ_ERR_HOLD (R122). -/
theorem exec_seqErrHold (hd : s.config.dir = 0#2) (hp : s.phase = .error) : exec .seqErrHold s = .next s :=
  seqMicro_next.2 ⟨hc, decodeSeqv_seqv_errHold hd hp, by rw [← hp]⟩

/-- SEQ_IDLE_HOLD (R114): SCK is driven to its idle level. -/
theorem exec_seqIdleHold (hd : s.config.dir = 0#2) (hp : s.phase = .idle) (hr : s.dataReady = false) :
    exec .seqIdleHold s = .next
      { s with
        pins := { s.pins with sck := some s.config.cpol }
        pinTrace := s.pinTrace ++ [{ role := .sck, pin := s.config.sckPin, level := s.config.cpol }] } :=
  seqMicro_next.2 ⟨hc, decodeSeqv_seqv_idle_free hd hp hr, by rw [pinWrite_sck_eq, ← hp]⟩

/-- SEQ_IDLE_START (R115): the unit begins at bit 0. -/
theorem exec_seqIdleStart (hd : s.config.dir = 0#2) (hp : s.phase = .idle) (hr : s.dataReady = true) :
    exec .seqIdleStart s = .next { s with bitIndex := 0#4, phase := .setupBit } :=
  seqMicro_next.2 ⟨hc, decodeSeqv_seqv_idle_ready hd hp hr, rfl⟩

/-- SEQ_SETUP_FIRST (R116): chip-select is asserted, then SetupBit proper. -/
theorem exec_seqSetupFirst (hd : s.config.dir = 0#2) (hp : s.phase = .setupBit) (h0 : s.bitIndex = 0#4) :
    exec .seqSetupFirst s = .next (shiftOut (pinWrite .cs s.params.csActiveLevel s)) :=
  seqMicro_next.2 ⟨hc, by rw [decodeSeqv_seqv_setupBit hd hp, if_pos h0], rfl⟩

/-- SEQ_SETUP_NEXT (R117): SetupBit proper. -/
theorem exec_seqSetupNext (hd : s.config.dir = 0#2) (hp : s.phase = .setupBit) (h0 : s.bitIndex ≠ 0#4) :
    exec .seqSetupNext s = .next (shiftOut s) :=
  seqMicro_next.2 ⟨hc, by rw [decodeSeqv_seqv_setupBit hd hp, if_neg h0], rfl⟩

end

/-! The obligations. -/

/-- Settles O29: the phase stays Idle, and the clock pin is always bound (R26). -/
theorem idleHoldDrivesIdleClock : Obligations.IdleHoldDrivesIdleClock := by
  unfold Obligations.IdleHoldDrivesIdleClock
  rintro s hc hd hp hr t rfl
  have hmicro := exec_seqIdleHold hc hd hp hr
  exact ⟨exec_step_of_seqOp (op := .idleHold) hmicro, hmicro⟩

/-- Settles O30: SEQ_IDLE_START is what STEP selects there. -/
theorem idleStartEntersSetupBit : Obligations.IdleStartEntersSetupBit := by
  unfold Obligations.IdleStartEntersSetupBit
  rintro s hc hd hp hr t rfl
  have hmicro := exec_seqIdleStart hc hd hp hr
  exact ⟨exec_step_of_seqOp (op := .idleStart) hmicro, hmicro⟩

/-- Settles O31: the guarded writes of chip-select and of SetupBit proper, one after the other (R116). -/
theorem setupFirstAssertsAndShifts : Obligations.SetupFirstAssertsAndShifts := by
  unfold Obligations.SetupFirstAssertsAndShifts
  rintro s hc hd hp h0 b lead rfl rfl t rfl
  have hmicro := exec_seqSetupFirst hc hd hp h0
  rw [pinWrite_cs_eq, shiftOut_eq] at hmicro
  exact ⟨exec_step_of_seqOp (op := .setupFirst) hmicro, hmicro⟩

/-- Settles O32: the guarded writes of SetupBit proper (R117). -/
theorem setupNextShifts : Obligations.SetupNextShifts := by
  unfold Obligations.SetupNextShifts
  rintro s hc hd hp h0 b lead rfl rfl t rfl
  have hmicro := exec_seqSetupNext hc hd hp h0
  rw [shiftOut_eq] at hmicro
  exact ⟨exec_step_of_seqOp (op := .setupNext) hmicro, hmicro⟩

/-- Settles O27: under each rule the level is a function of two bits (R112). -/
theorem leadLevelTable : Obligations.LeadLevelTable := by
  unfold Obligations.LeadLevelTable
  intro p cpol cpha
  refine ⟨fun h => ?_, fun h => ?_, fun h => ?_⟩
  · simp [leadLevel, h]
  · cases cpol <;> simp [leadLevel, h]
  · cases cpol <;> cases cpha <;> simp [leadLevel, h]

/-- Settles O36: the direction is tested before the phase (D6), and ERR reads the phase (R35). -/
theorem errEnterIsUnsupported : Obligations.ErrEnterIsUnsupported := by
  unfold Obligations.ErrEnterIsUnsupported
  intro s hc hd
  have hmicro := exec_seqErrEnter hc hd
  exact ⟨exec_step_of_seqOp (op := .errEnter) hmicro, hmicro, rfl⟩

/-- Settles O37: both micro-operations write the phase that stands; the invariant keeps a transmit-only engine out of
Error (R33 (e)). -/
theorem errHoldChangesNothing : Obligations.ErrHoldChangesNothing := by
  unfold Obligations.ErrHoldChangesNothing
  intro s hc hp
  refine ⟨exec_step_error hc hp, decide_eq_true hp, fun hd => exec_seqErrHold hc hd hp, fun hd => ?_,
    fun hinv hd => hinv.noError hc hd hp⟩
  rw [exec_seqErrEnter hc hd, ← hp]

/-- Settles O44: the first STEP enters Error, and there a STEP is a fixed point (R121, R158). -/
theorem receiveEngineStaysInError : Obligations.ReceiveEngineStaysInError := by
  unfold Obligations.ReceiveEngineStaysInError
  intro s n hc hd hn
  obtain ⟨m, rfl⟩ := Nat.exists_eq_add_of_le hn
  have hfirst : iterate (exec .step) 1 s = .next { s with phase := .error } :=
    iterate_succ_of_next rfl (exec_step_of_seqOp (op := .errEnter) (exec_seqErrEnter hc hd))
  rw [iterate_add hfirst]
  exact iterate_of_fixed (exec_step_error (s := { s with phase := .error }) hc rfl) m

end Sys2Proof.Machine
end

section
/-! PROOF. The invariant (10_state.md, R33, R34, R37; 42_step_fsm.md, R124, R126): each agent's writes keep it. -/

namespace Sys2Proof.Machine

open Sys2Proof

/-- Every unit has a bit 0 (R24). -/
theorem width_bits_pos (w : Width) : 1 ≤ w.bits := by cases w <;> decide

/-- A guarded level is there exactly where its guard holds. -/
theorem isSome_guarded (b : Bool) (l : Level) : (if b then some l else none).isSome = b := by cases b <;> rfl

/-! SEQ. Each lemma names the state a micro-operation answers. -/

section
variable {s : State} (hinv : Inv s) (hc : s.configured = true)
include hinv hc

/-- SEQ_ERR_ENTER (R121): an engine asked to receive was in Idle or in Error, which have the same levels. -/
theorem Inv.errEnter (hd : s.config.dir ≠ 0#2) : Inv { s with phase := .error } :=
  have hout : s.phase = .idle ∨ s.phase = .error := hinv.receive hc hd
  have hunit : s.phase = .idle ∨ s.phase = .error ∨ (s.phase = .setupBit ∧ s.bitIndex = 0#4) := by tauto
  { hinv with
    unconfigured := by simp [hc]
    ready := by simp [hd]
    noError := by simp [hd]
    receive := by simp
    resting := fun _ _ => hinv.resting hc hunit
    between := by simp
    leading := by simp
    trailing := by simp
    deselected := fun _ hcs _ => hinv.deselected hc hcs hunit
    selected := by simp }

/-- SEQ_IDLE_HOLD (R114): SCK at its idle level is one of the two it may rest at. -/
theorem Inv.idleHold (hd : s.config.dir = 0#2) (hp : s.phase = .idle) (trace : List PinEvent) :
    Inv { s with pins := { s.pins with sck := some s.config.cpol }, pinTrace := trace } :=
  { hinv with
    unconfigured := by simp [hc]
    owned := fun _ => ⟨rfl, (hinv.owned hc).2⟩
    resting := fun _ _ => .inl rfl
    between := by simp [hp]
    untouched := by simp [hd]
    leading := by simp [hp]
    trailing := by simp [hp] }

/-- SEQ_IDLE_START (R115): before the first bit the pins stand as in Idle. -/
theorem Inv.idleStart (hd : s.config.dir = 0#2) (hp : s.phase = .idle) (hr : s.dataReady = true) :
    Inv { s with bitIndex := 0#4, phase := .setupBit } :=
  { hinv with
    unconfigured := by simp [hc]
    ready := by simp [hr]
    noError := by simp
    receive := by simp [hd]
    index := width_bits_pos _
    resting := fun _ _ => hinv.resting hc (.inl hp)
    between := by simp
    leading := by simp
    trailing := by simp
    deselected := fun _ hcs _ => hinv.deselected hc hcs (.inl hp)
    selected := by simp }

/-- SetupBit (R116, R117), chip-select being asserted where it is bound. -/
theorem Inv.setupBit (hd : s.config.dir = 0#2) (hr : s.dataReady = true) {cs : Option Level}
    (howned : cs.isSome = s.config.csPin.isSome)
    (hasserted : s.config.csPin.isSome = true → cs = some s.params.csActiveLevel) (trace : List PinEvent) :
    Inv (shiftOut { s with pins := { s.pins with cs := cs }, pinTrace := trace }) := by
  rw [shiftOut_eq]
  exact
    { hinv with
      unconfigured := by simp [hc]
      ready := by simp [hr]
      noError := by simp
      receive := by simp [hd]
      register := fun i hi => by
        rw [BitVec.getLsbD_ushiftRight]
        exact hinv.register _ (by simp only at hi; omega)
      owned := fun _ => by
        obtain ⟨-, hmosi, -⟩ := hinv.owned hc
        refine ⟨rfl, ?_, howned⟩
        cases hm : s.config.mosiPin <;> simp_all
      resting := by simp
      between := by simp
      untouched := by simp [hd]
      leading := fun _ _ => rfl
      trailing := by simp
      deselected := by simp
      selected := fun _ hcs _ => hasserted hcs }

/-- SEQ_SETTLE (R118): SCK takes its trailing level inside the unit. -/
theorem Inv.settle (hd : s.config.dir = 0#2) (hp : s.phase = .clockSettle) (trace : List PinEvent) :
    Inv { s with
      phase := .bitComplete
      pins := { s.pins with sck := some (trailLevel s.params s.config.cpol s.config.cpha) }
      pinTrace := trace } :=
  { hinv with
    unconfigured := by simp [hc]
    ready := fun _ _ hr => by simpa [hp] using hinv.ready hc hd hr
    noError := by simp
    receive := by simp [hd]
    owned := fun _ => ⟨rfl, (hinv.owned hc).2⟩
    resting := by simp
    between := by simp
    untouched := by simp [hd]
    leading := by simp
    trailing := fun _ _ => rfl
    deselected := by simp
    selected := fun _ hcs _ => hinv.selected hc hcs (.inl hp) }

/-- SEQ_COMPLETE_NEXT (R119): between two bits, at an index that is not 0, the pins stand as in BitComplete. -/
theorem Inv.completeNext (hd : s.config.dir = 0#2) (hp : s.phase = .bitComplete)
    (hi : s.bitIndex.toNat + 1 < s.config.width.bits) :
    Inv { s with bitIndex := s.bitIndex + 1#4, phase := .setupBit } :=
  have hsucc : (s.bitIndex + 1#4).toNat = s.bitIndex.toNat + 1 := bitIndex_succ_toNat hi
  have hne : s.bitIndex + 1#4 ≠ 0#4 := fun h0 => by simp [h0] at hsucc
  { hinv with
    unconfigured := by simp [hc]
    ready := fun _ _ hr => by simpa [hp] using hinv.ready hc hd hr
    noError := by simp
    receive := by simp [hd]
    index := by simp only [hsucc]; omega
    resting := by simp [hne]
    between := fun _ _ _ => hinv.trailing hc hp
    leading := by simp
    trailing := by simp
    deselected := by simp [hne]
    selected := fun _ hcs _ => hinv.selected hc hcs (.inr (.inl hp)) }

/-- SEQ_COMPLETE_LAST (R120): SCK rests at its trailing level, and chip-select is deasserted. -/
theorem Inv.completeLast (hd : s.config.dir = 0#2) (hp : s.phase = .bitComplete) (trace : List PinEvent) :
    Inv { s with
      phase := .idle
      dataReady := false
      pins := { s.pins with
        cs := if s.config.csPin.isSome then some (!s.params.csActiveLevel) else s.pins.cs }
      pinTrace := trace } :=
  { hinv with
    unconfigured := by simp [hc]
    ready := by simp
    noError := by simp
    receive := by simp
    owned := fun _ => by
      obtain ⟨hsck, hmosi, hcs⟩ := hinv.owned hc
      refine ⟨hsck, hmosi, ?_⟩
      cases h : s.config.csPin <;> simp_all
    resting := fun _ _ => .inr (hinv.trailing hc hp)
    between := by simp
    untouched := by simp [hd]
    leading := by simp
    trailing := by simp
    deselected := fun _ hcs _ => if_pos hcs
    selected := by simp }

/-- STEP in a state that meets the invariant: it is taken, whatever the phase, and keeps the invariant. -/
theorem Inv.exec_step : ∃ t, exec .step s = .next t ∧ Inv t := by
  by_cases hd : s.config.dir = 0#2
  case neg => exact ⟨_, exec_step_of_seqOp (op := .errEnter) (exec_seqErrEnter hc hd), hinv.errEnter hc hd⟩
  have hready : s.phase ≠ .idle → s.dataReady = true := fun hp => by
    by_contra hr
    exact hp (hinv.ready hc hd (by simpa using hr))
  cases hp : s.phase with
  | error => exact absurd hp (hinv.noError hc hd)
  | idle =>
    cases hr : s.dataReady with
    | true => exact ⟨_, exec_step_of_seqOp (op := .idleStart) (exec_seqIdleStart hc hd hp hr),
        hinv.idleStart hc hd hp hr⟩
    | false => exact ⟨_, exec_step_of_seqOp (op := .idleHold) (exec_seqIdleHold hc hd hp hr),
        hinv.idleHold hc hd hp _⟩
  | setupBit =>
    have hr := hready (by simp [hp])
    obtain ⟨-, -, howned⟩ := hinv.owned hc
    by_cases h0 : s.bitIndex = 0#4
    · refine ⟨_, exec_step_of_seqOp (op := .setupFirst) (exec_seqSetupFirst hc hd hp h0), ?_⟩
      rw [pinWrite_cs_eq]
      exact hinv.setupBit hc hd hr (by split <;> simp_all) (fun hcs => if_pos hcs) _
    · exact ⟨_, exec_step_of_seqOp (op := .setupNext) (exec_seqSetupNext hc hd hp h0),
        hinv.setupBit hc hd hr howned (fun hcs => hinv.selected hc hcs (.inr (.inr ⟨hp, h0⟩))) _⟩
  | clockSettle => exact ⟨_, exec_step_of_seqOp (op := .settle) (exec_seqSettle hc hd hp rfl),
      hinv.settle hc hd hp _⟩
  | bitComplete =>
    obtain hlt | heq := Nat.lt_or_eq_of_le hinv.index
    · exact ⟨_, exec_step_of_seqOp (op := .completeNext) (exec_seqCompleteNext hc hd hp hlt),
        hinv.completeNext hc hd hp hlt⟩
    · exact ⟨_, exec_step_of_seqOp (op := .completeLast) (exec_seqCompleteLast hc hd hp heq),
        hinv.completeLast hc hd hp _⟩

end

/-- SEQ keeps the invariant: its micro-operation is what STEP runs. -/
theorem Inv.of_seqOp {op : SeqOp} {s t : State} (hinv : Inv s) (h : exec op.toInstr s = .next t) : Inv t := by
  have hstep := exec_step_of_seqOp h
  have hc : s.configured = true := by cases op <;> exact (seqMicro_next.1 h).1
  obtain ⟨u, hu, hkeeps⟩ := hinv.exec_step hc
  obtain rfl : u = t := by simpa [hu] using hstep
  exact hkeeps

/-! SUB and CONFIGURE. -/

/-- While a call can load, the engine is outside a unit (R33 (a)). -/
theorem Inv.idle_or_error {s : State} (hinv : Inv s) (hc : s.configured = true) (hr : s.dataReady = false) :
    s.phase = .idle ∨ s.phase = .error := by
  by_cases hd : s.config.dir = 0#2
  · exact .inl (hinv.ready hc hd hr)
  · exact hinv.receive hc hd

/-- A load (R103) changes no pin, and leaves no bit above the unit in the shift register. -/
theorem Inv.load {s : State} (hinv : Inv s) (hc : s.configured = true) (hr : s.dataReady = false) (unit : UnitWord)
    (call : Option UnitWord) :
    Inv { s with
      shiftRegister := wireValue s.config unit, bitIndex := 0#4, dataReady := true, submitUnit := call } :=
  have hout := hinv.idle_or_error hc hr
  have hunit : s.phase = .idle ∨ s.phase = .error ∨ (s.phase = .setupBit ∧ s.bitIndex = 0#4) := by tauto
  { hinv with
    unconfigured := by simp [hc]
    ready := by simp
    index := width_bits_pos _
    register := fun i hi => getLsbD_wireValue_of_ge s.config unit hi
    resting := fun _ _ => hinv.resting hc hunit
    between := by simp
    deselected := fun _ hcs _ => hinv.deselected hc hcs hunit
    selected := by rcases hout with hp | hp <;> simp [hp] }

/-- SUB keeps the invariant, with whatever operand the call has. -/
theorem Inv.of_subOp {op : SubOp} {call : Option UnitWord} {s t : State} (hinv : Inv s)
    (h : exec op.toInstr { s with submitUnit := call } = .next t) : Inv t := by
  cases op <;> obtain ⟨hc, hv, unit, -, rfl⟩ := subMicro_next.1 h
  case wait => exact { hinv with unconfigured := by simp_all }
  case load => exact hinv.load hc (by simpa using hv) unit none

/-- CONFIGURE keeps the invariant: a failed one writes nothing of the engine, a successful one starts it afresh. -/
theorem Inv.of_configure {cfg : Cfg} {s t : State} (hinv : Inv s) (h : exec (.configure cfg) s = .next t) : Inv t := by
  obtain rfl | rfl := exec_configure_cases h
  · exact { hinv with }
  · rw [configureEngine_eq rfl]
    exact
      { unconfigured := by simp
        ready := by simp
        noError := by simp
        receive := by simp
        index := width_bits_pos _
        register := by simp
        owned := fun _ => ⟨rfl, isSome_guarded .., isSome_guarded ..⟩
        resting := fun _ _ => .inl rfl
        between := by simp
        untouched := fun _ _ => ⟨rfl, fun hm => if_pos hm⟩
        leading := by simp
        trailing := by simp
        deselected := fun _ hcs _ => if_pos hcs
        selected := by simp
        transfer := hinv.transfer }

/-! XFER. -/

/-- XENT selects XFER_BEGIN for a present buffer and a length that is not 0 (R77). -/
theorem decodeXent_xent_begin_iff {s : State} :
    decodeXent (xent s) = some .begin ↔ s.request.buffer.isSome = true ∧ s.request.length ≠ 0 := by
  cases hb : s.request.buffer <;> simp [hb]

/-- XLOOP selects XFER_WRITE only while bytes remain (R133). -/
theorem remaining_ne_zero_of_write {s : State} (hv : decodeXloop (xloop s) = some .write) : s.remaining ≠ 0 :=
  fun h0 => by simp [h0] at hv

/-- XFER's entry keeps the invariant: XFER_BEGIN starts from the whole length, with a buffer present (R132). -/
theorem Inv.of_entryOp {op : EntryOp} {s t : State} (hinv : Inv s) (h : exec op.toInstr s = .next t) : Inv t := by
  cases op with
  | reject =>
    simp only [EntryOp.toInstr, exec, execXferReject] at h
    split_ifs at h
    cases h
    exact { hinv with }
  | begin =>
    simp only [EntryOp.toInstr, exec, execXferBegin] at h
    split_ifs at h with hx hv
    cases h
    obtain ⟨hbuffer, -⟩ := decodeXent_xent_begin_iff.1 hv
    exact { hinv with transfer := fun _ => ⟨hbuffer, Nat.zero_add _⟩ }

/-- XFER's loop keeps the invariant: XFER_WRITE moves one byte from `remaining` to `cursor` (R134), and an ended call
leaves nothing to keep. -/
theorem Inv.of_loopOp {op : LoopOp} {s t : State} (hinv : Inv s) (h : exec op.toInstr s = .next t) : Inv t := by
  cases op <;> obtain ⟨hx, hv, ha⟩ := loopMicro_next.1 h
  case done => cases ha; exact { hinv with transfer := by simp }
  case timeout => cases ha; exact { hinv with transfer := by simp }
  case wait => cases ha; exact hinv
  case write =>
    have hr := remaining_ne_zero_of_write hv
    obtain ⟨hbuffer, hsum⟩ := hinv.transfer hx
    split at ha <;> cases ha
    exact { hinv with transfer := fun _ => ⟨hbuffer, by simp; omega⟩ }

/-! Every instruction, every step. -/

/-- Every instruction keeps the invariant. -/
theorem Inv.of_exec {i : Instr} {s t : State} (hinv : Inv s) (h : exec i s = .next t) : Inv t := by
  obtain ⟨cfg, rfl⟩ | ⟨op, hop⟩ | ⟨call, op, hop⟩ | ⟨op, hop⟩ | ⟨op, hop⟩ := exec_cases h
  · exact hinv.of_configure h
  · exact hinv.of_seqOp hop
  · exact hinv.of_subOp hop
  · exact hinv.of_entryOp hop
  · exact hinv.of_loopOp hop

/-- A command's operands reach their registers outside the invariant: TRANSFER's only when none is in progress. -/
theorem Inv.staged {i : Instr} {c : Command} {s : State} (hinv : Inv s)
    (hwait : s.xferActive = true → i.fromTask = false) : Inv (stage i c s) := by
  cases i with
  | configure cfg => exact { hinv with }
  | transfer => exact { hinv with transfer := fun hx => absurd (hwait hx) (by simp [Instr.fromTask]) }
  | _ => exact hinv

/-- A task's turn keeps the invariant. -/
theorem Inv.of_runTask {s t : State} (hinv : Inv s) (h : runTask s = .next t) : Inv t := by
  obtain ⟨-, op, hop⟩ | ⟨-, op, hop⟩ | rfl := runTask_cases h
  · exact hinv.of_exec hop
  · exact hinv.of_exec hop
  · exact hinv

/-- Settles O57: what one step can do, case by case; the environment's own values stand outside the invariant. -/
theorem stepKeepsInv : Obligations.StepKeepsInv := by
  unfold Obligations.StepKeepsInv
  intro s t hinv h
  obtain ⟨rest, flag, rfl⟩ | ⟨rest, tick, rfl⟩ | ⟨rest, h⟩ | ⟨rest, c, i, -, hwait, h⟩ := step_cases h
  · exact { hinv with }
  · exact { hinv with }
  · have hrest : Inv { s with inputs := rest } := { hinv with }
    exact hrest.of_runTask h
  · have hrest : Inv { s with inputs := rest } := { hinv with }
    exact (hrest.staged hwait).of_exec h

/-- Settles O56: the fields of `State.reset` are closed. -/
theorem resetMeetsInv : Obligations.ResetMeetsInv where
  unconfigured := by decide
  ready := by decide
  noError := by decide
  receive := by decide
  index := by decide
  register := by simp [State.reset]
  owned := by decide
  resting := by decide
  between := by decide
  untouched := by decide
  leading := by decide
  trailing := by decide
  deselected := by decide
  selected := by decide
  transfer := by decide

/-- Settles O40: the first half of `Inv.exec_step`. -/
theorem safeEngineAlwaysSteps : Obligations.SafeEngineAlwaysSteps := by
  unfold Obligations.SafeEngineAlwaysSteps
  intro s hinv hc
  obtain ⟨t, hstep, -⟩ := hinv.exec_step hc
  exact ⟨t, hstep⟩

end Sys2Proof.Machine
end

section
/-! PROOF. A unit on the wire (42_step_fsm.md, R124 to R126): what the pins, the shift register and the pin trace hold
while bit `k` of the unit is sent. -/

namespace Sys2Proof.Machine

open Sys2Proof

/-! The trace of a unit. -/

/-- A pin trace of a unit begun in `s₀`: the chip-select assertion, then writes of other pins (R126). -/
def TraceInside (s₀ : State) (trace : List PinEvent) : Prop :=
  ∃ inside, trace = s₀.pinTrace ++ pinEvents s₀.config .cs s₀.params.csActiveLevel ++ inside ∧
    ∀ e ∈ inside, e.role ≠ .cs

/-- The events of a role's write are of that role. -/
theorem role_of_mem_pinEvents {c : SpiConfig} {r : OutPin} {l : Level} {e : PinEvent} (h : e ∈ pinEvents c r l) :
    e.role = r := by
  unfold pinEvents at h
  cases hp : c.pinOf r <;> simp_all

/-- Writes of another pin keep a trace inside its unit. -/
theorem TraceInside.append {s₀ : State} {trace : List PinEvent} (h : TraceInside s₀ trace) {r : OutPin}
    (hr : r ≠ .cs) (c : SpiConfig) (l : Level) : TraceInside s₀ (trace ++ pinEvents c r l) := by
  obtain ⟨inside, rfl, hinside⟩ := h
  refine ⟨inside ++ pinEvents c r l, by simp, fun e he => ?_⟩
  obtain he | he := List.mem_append.1 he
  · exact hinside e he
  · rw [role_of_mem_pinEvents he]; exact hr

/-! Bit `k` on the wire. -/

/-- Bit `k` of the unit loaded in `s₀` has been shifted out, and SCK stands at `level` (R124, R125). -/
structure OnWire (s₀ : State) (k : Nat) (level : Level) (s : State) : Prop where
  params : s.params = s₀.params
  register : s.shiftRegister = s₀.shiftRegister >>> (k + 1)
  sck : s.pins.sck = some level
  mosi : s₀.config.mosiPin.isSome = true → s.pins.mosi = some (s₀.shiftRegister.getLsbD k)
  trace : TraceInside s₀ s.pinTrace

/-- The leading level of the unit loaded in a state (R112). -/
def State.lead (s : State) : Level := leadLevel s.params s.config.cpol s.config.cpha

/-- SetupBit proper puts bit `k` on the wire where the `k` bits before it are gone from the shift register. -/
theorem onWire_shiftOut {s₀ s : State} {k : Nat} (hconfig : s.config = s₀.config) (hparams : s.params = s₀.params)
    (hregister : s.shiftRegister = s₀.shiftRegister >>> k) (htrace : TraceInside s₀ s.pinTrace) :
    OnWire s₀ k s₀.lead (shiftOut s) where
  params := by simp [hparams]
  register := by simp [hregister, BitVec.shiftRight_add]
  sck := by simp [hparams, hconfig, State.lead]
  mosi := fun hm => by simp [hconfig, hm, hregister]
  trace := by
    rw [shiftOut_pinTrace]
    exact (htrace.append (by decide) _ _).append (by decide) _ _

section
variable {s₀ s : State} {k : Nat} {level : Level}

/-- The first SetupBit STEP asserts chip-select and puts bit 0 on the wire. -/
theorem exec_step_first_bit (h : InUnit s₀.config .setupBit 0 s) (hparams : s.params = s₀.params)
    (hregister : s.shiftRegister = s₀.shiftRegister) (htrace : s.pinTrace = s₀.pinTrace) :
    ∃ t, exec .step s = .next t ∧ InUnit s₀.config .clockSettle 0 t ∧ OnWire s₀ 0 s₀.lead t := by
  obtain ⟨t, hstep, hunit⟩ := h.step_setupBit
  have h0 : s.bitIndex = 0#4 := BitVec.eq_of_toNat_eq h.index
  have heq := hstep.symm.trans (exec_step_setupBit h.configured h.transmit h.phase)
  rw [if_pos h0] at heq
  cases heq
  refine ⟨_, hstep, hunit, onWire_shiftOut (by simp [h.config]) (by simp [hparams]) (by simp [hregister]) ?_⟩
  exact ⟨[], by simp [htrace, hparams, h.config], by simp⟩

/-- A later SetupBit STEP puts the next bit on the wire. -/
theorem OnWire.step_setupBit (hw : OnWire s₀ k level s) (h : InUnit s₀.config .setupBit (k + 1) s) :
    ∃ t, exec .step s = .next t ∧ InUnit s₀.config .clockSettle (k + 1) t ∧ OnWire s₀ (k + 1) s₀.lead t := by
  obtain ⟨t, hstep, hunit⟩ := h.step_setupBit
  have h0 : s.bitIndex ≠ 0#4 := fun h0 => by simpa [h0] using h.index
  have heq := hstep.symm.trans (exec_step_setupBit h.configured h.transmit h.phase)
  rw [if_neg h0] at heq
  cases heq
  exact ⟨_, hstep, hunit, onWire_shiftOut h.config hw.params hw.register hw.trace⟩

/-- The ClockSettle STEP takes SCK to its trailing level, the bit staying on MOSI (R118). -/
theorem OnWire.step_clockSettle (hw : OnWire s₀ k s₀.lead s) (h : InUnit s₀.config .clockSettle k s) :
    ∃ t, exec .step s = .next t ∧ InUnit s₀.config .bitComplete k t ∧ OnWire s₀ k (!s₀.lead) t := by
  obtain ⟨t, hstep, hunit⟩ := h.step_clockSettle
  have hsettle := exec_step_of_seqOp (op := .settle) (exec_seqSettle h.configured h.transmit h.phase rfl)
  cases hstep.symm.trans hsettle
  exact ⟨_, hstep, hunit,
    { params := hw.params
      register := hw.register
      sck := by simp [hw.params, h.config, trailLevel, State.lead]
      mosi := hw.mosi
      trace := hw.trace.append (r := .sck) (by decide) s.config _ }⟩

/-- The BitComplete STEP before the last bit moves no pin (R119). -/
theorem OnWire.step_bitComplete_next (hw : OnWire s₀ k level s) (h : InUnit s₀.config .bitComplete k s)
    (hk : k + 1 < s₀.config.width.bits) :
    ∃ t, exec .step s = .next t ∧ InUnit s₀.config .setupBit (k + 1) t ∧ OnWire s₀ k level t := by
  obtain ⟨t, hstep, hunit⟩ := h.step_bitComplete_next hk
  have hi : s.bitIndex.toNat + 1 < s.config.width.bits := by rw [h.index, h.config]; exact hk
  have hnext := exec_step_of_seqOp (op := .completeNext) (exec_seqCompleteNext h.configured h.transmit h.phase hi)
  cases hstep.symm.trans hnext
  exact ⟨_, hstep, hunit, ⟨hw.params, hw.register, hw.sck, hw.mosi, hw.trace⟩⟩

/-- The BitComplete STEP of the last bit writes chip-select, and no other pin (R120). -/
theorem OnWire.step_bitComplete_last (hw : OnWire s₀ k level s) (h : InUnit s₀.config .bitComplete k s)
    (hk : k + 1 = s₀.config.width.bits) :
    ∃ t, exec .step s = .next t ∧ t.pins.sck = s.pins.sck ∧ t.pins.mosi = s.pins.mosi ∧
      t.pinTrace = s.pinTrace ++ pinEvents s₀.config .cs (!s₀.params.csActiveLevel) := by
  have hi : s.bitIndex.toNat + 1 = s.config.width.bits := by rw [h.index, h.config]; exact hk
  have hlast := exec_step_of_seqOp (op := .completeLast) (exec_seqCompleteLast h.configured h.transmit h.phase hi)
  exact ⟨_, hlast, rfl, rfl, by rw [h.config, hw.params]⟩

end

/-! The run of a unit. -/

section
variable {s : State} (hc : s.configured = true) (hd : s.config.dir = 0#2) (hp : s.phase = .idle)
  (hr : s.dataReady = true)
include hc hd hp hr

/-- STEP `3k+2` puts bit `k` on the wire, with SCK leading (R125), by induction on the bits before it. -/
theorem iterate_step_onWire {k : Nat} (hk : k < s.config.width.bits) :
    ∃ t, iterate (exec .step) (3 * k + 2) s = .next t ∧ InUnit s.config .clockSettle k t ∧ OnWire s k s.lead t := by
  induction k with
  | zero =>
    have hstart := exec_step_of_seqOp (op := .idleStart) (exec_seqIdleStart hc hd hp hr)
    obtain ⟨b, hab, hb, hwire⟩ := exec_step_first_bit (s₀ := s)
      (s := { s with bitIndex := 0#4, phase := .setupBit }) ⟨hc, rfl, hd, rfl, rfl, hr⟩ rfl rfl rfl
    exact ⟨b, iterate_succ_of_next (iterate_succ_of_next rfl hstart) hab, hb, hwire⟩
  | succ k ih =>
    obtain ⟨b, hrun, hb, hwb⟩ := ih (by omega)
    obtain ⟨d, hbd, hcomplete, hwd⟩ := hwb.step_clockSettle hb
    obtain ⟨e, hde, he, hwe⟩ := hwd.step_bitComplete_next hcomplete hk
    obtain ⟨f, hef, hf, hwf⟩ := hwe.step_setupBit he
    exact ⟨f, iterate_succ_of_next (iterate_succ_of_next (iterate_succ_of_next hrun hbd) hde) hef, hf, hwf⟩

/-- STEPs `3k+2` and `3k+3` are bit `k`'s SetupBit and ClockSettle, with SCK leading and then trailing. -/
theorem iterate_step_onWire_bit {k : Nat} (hk : k < s.config.width.bits) :
    ∃ b d, (iterate (exec .step) (3 * k + 2) s = .next b ∧ OnWire s k s.lead b) ∧
      iterate (exec .step) (3 * k + 3) s = .next d ∧ InUnit s.config .bitComplete k d ∧ OnWire s k (!s.lead) d := by
  obtain ⟨b, hrun, hb, hwb⟩ := iterate_step_onWire hc hd hp hr hk
  obtain ⟨d, hbd, hcomplete, hwd⟩ := hwb.step_clockSettle hb
  exact ⟨b, d, ⟨hrun, hwb⟩, iterate_succ_of_next hrun hbd, hcomplete, hwd⟩

end

/-- A register with no bit above the unit is empty once the whole unit is shifted out. -/
theorem shiftRight_unit_eq_zero {v : UnitWord} {n : Nat} (hv : ∀ i, n ≤ i → v.getLsbD i = false) : v >>> n = 0#16 :=
  BitVec.eq_of_getLsbD_eq fun i _ => by simp [BitVec.getLsbD_ushiftRight, hv]

/-- Settles O42: bit `k` is put on the wire by its SetupBit, and no pin write before the next bit's touches MOSI. -/
theorem unitWaveform : Obligations.UnitWaveform := by
  unfold Obligations.UnitWaveform
  rintro s hc hd hp hr hhigh lead rfl k hk
  obtain ⟨b, d, ⟨hrun_b, hwb⟩, hrun_d, hcomplete, hwd⟩ := iterate_step_onWire_bit hc hd hp hr hk
  obtain ⟨e, hde, hsck, hmosi⟩ : ∃ e, exec .step d = .next e ∧ e.pins.sck = some (!s.lead) ∧
      (s.config.mosiPin.isSome = true → e.pins.mosi = some (s.shiftRegister.getLsbD k)) := by
    obtain hlt | heq := Nat.lt_or_eq_of_le hk
    · obtain ⟨e, hde, -, hwe⟩ := hwd.step_bitComplete_next hcomplete hlt
      exact ⟨e, hde, hwe.sck, hwe.mosi⟩
    · obtain ⟨e, hde, hsck, hmosi, -⟩ := hwd.step_bitComplete_last hcomplete heq
      exact ⟨e, hde, hsck.trans hwd.sck, fun hm => hmosi.trans (hwd.mosi hm)⟩
  refine ⟨b, d, e, hrun_b, hrun_d, iterate_succ_of_next hrun_d hde, hwb.sck, hwd.sck, hsck,
    fun hm => ⟨hwb.mosi hm, hwd.mosi hm, hmosi hm⟩, fun hlast => ?_⟩
  rw [hwb.register, hlast]
  exact shiftRight_unit_eq_zero hhigh

/-- Settles O43: the last BitComplete's deassertion follows a trace inside the unit (R126). -/
theorem chipSelectFramesTheUnit : Obligations.ChipSelectFramesTheUnit := by
  unfold Obligations.ChipSelectFramesTheUnit
  intro s hc hd hp hr
  obtain ⟨k, hW⟩ : ∃ k, s.config.width.bits = k + 1 := Nat.exists_eq_add_of_le' (width_bits_pos _)
  obtain ⟨-, d, -, hrun, hcomplete, hwd⟩ := iterate_step_onWire_bit hc hd hp hr (k := k) (by omega)
  obtain ⟨t, hstep, -, -, htrace⟩ := hwd.step_bitComplete_last hcomplete hW.symm
  obtain ⟨inside, hinside, hroles⟩ := hwd.trace
  rw [hW]
  exact ⟨t, inside, iterate_succ_of_next hrun hstep, by rw [htrace, hinside], hroles⟩

end Sys2Proof.Machine
end

section
/-! PROOF. One step (10_state.md, R20; log 6, log 7): which input is taken, and whose turn it is. -/

namespace Sys2Proof.Machine

open Sys2Proof

/-! Commands, and the environment. -/

/-- A command's instruction runs on the state with the input taken, unless it must wait (R71). -/
theorem step_command {s : State} {c : Command} {rest : List Input} {i : Instr} (hi : s.inputs = .command c :: rest)
    (hd : decodeCmd c.word = .ok i) (hw : s.xferActive = true → i.fromTask = false) :
    step s = exec i (stage i c { s with inputs := rest }) := by
  have hready : mustWait c s = false := by
    cases hx : s.xferActive with
    | true => simp [mustWait, hd, hw hx]
    | false => simp [mustWait, hx]
  simp [step, runNext, hi, hready, runCommand, hd]

/-- Settles O1: a word that is no command never waits. -/
theorem stepRunsDecodedCommand : Obligations.StepRunsDecodedCommand := by
  unfold Obligations.StepRunsDecodedCommand
  intro s c rest hi
  refine ⟨fun i hd hw => step_command hi hd hw, fun r hd => ?_⟩
  simp [step, runNext, hi, mustWait, runCommand, hd]

/-- Settles O3: `step` answers these inputs itself. -/
theorem environmentInputsChangeOnlyTheirOwn : Obligations.EnvironmentInputsChangeOnlyTheirOwn := by
  unfold Obligations.EnvironmentInputsChangeOnlyTheirOwn
  intro s rest
  exact ⟨fun flag hi => by simp only [step, runNext, hi], fun tick hi => by simp only [step, runNext, hi]⟩

/-! The task context's turn. -/

/-- With no input the task context has its turn (log 6). -/
theorem step_no_input {s : State} (hi : s.inputs = []) : step s = runTask s := by
  simp only [step, runNext, hi]

/-- While a TRANSFER is in progress a task's command leaves the turn to the task inside (log 7). -/
theorem step_waiting_command {s : State} {c : Command} {rest : List Input} {i : Instr}
    (hi : s.inputs = .command c :: rest) (hd : decodeCmd c.word = .ok i) (hf : i.fromTask = true)
    (hx : s.xferActive = true) : step s = runTask s := by
  simp [step, runNext, hi, mustWait, hx, hd, hf]

/-- The turn of a TRANSFER in progress is the micro-operation XLOOP selects (R133). -/
theorem runTask_transfer {s : State} {op : LoopOp} (hx : s.xferActive = true)
    (hv : decodeXloop (xloop s) = some op) : runTask s = exec op.toInstr s := by
  simp only [runTask, hx, hv, if_true]

/-- Without one, the turn of a waiting SUBMIT is the micro-operation SUBV selects (R102). -/
theorem runTask_submit {s : State} {op : SubOp} (hx : s.xferActive = false) (hu : s.submitUnit.isSome = true)
    (hv : decodeSubv (subv s) = some op) : runTask s = exec op.toInstr s := by
  simp only [runTask, hx, hu, hv, Bool.false_eq_true, if_true, if_false]

/-- With no task inside, nothing happens. -/
theorem runTask_nobody {s : State} (hx : s.xferActive = false) (hu : s.submitUnit = none) : runTask s = .next s := by
  simp [runTask, hx, hu]

/-- Settles O2: in each of the three situations `step` is `runTask`, and taking an input changes no register. -/
theorem taskTurnRunsTheTaskInside : Obligations.TaskTurnRunsTheTaskInside := by
  unfold Obligations.TaskTurnRunsTheTaskInside
  intro s u hturn
  obtain ⟨hstep, hxfer, hunit⟩ : step s = runTask u ∧ u.xferActive = s.xferActive ∧ u.submitUnit = s.submitUnit := by
    obtain ⟨hi, rfl⟩ | ⟨rest, hi, rfl⟩ | ⟨c, rest, i, hi, hd, hf, hx, rfl⟩ := hturn
    · exact ⟨step_no_input hi, rfl, rfl⟩
    · exact ⟨step_taskTurn hi, rfl, rfl⟩
    · exact ⟨step_waiting_command hi hd hf hx, rfl, rfl⟩
  rw [hstep, ← hxfer, ← hunit]
  exact ⟨fun op hx hv => runTask_transfer hx hv, fun op hx hu hv => runTask_submit hx hu hv, runTask_nobody⟩

/-- Settles O10: each field of `State.reset` is given by its definition (R170). -/
theorem resetIsUnconfigured : Obligations.ResetIsUnconfigured :=
  ⟨rfl, rfl, rfl, rfl, rfl, rfl, rfl, rfl⟩

end Sys2Proof.Machine
end

section
/-! PROOF. TRANSFER's loop (43_hw_transfer.md, R132 to R139): the deadline in numbers, each micro-operation's answer,
and a whole call. -/

namespace Sys2Proof.Machine

open Sys2Proof

/-! The deadline. -/

/-- The deadline in numbers, the elapsed ticks being a difference of words (R138, R139). -/
theorem deadlinePassed_iff {s : State} :
    deadlinePassed s = true ↔ s.request.timeoutTicks ≠ 0#32 ∧ s.request.timeoutTicks ≠ s.params.timeoutInfinite ∧
      s.request.timeoutTicks.toNat ≤ (s.now - s.startTick).toNat := by
  simp [deadlinePassed, deadlineApplies, elapsed, BitVec.ule_eq_decide, and_assoc]

/-- Settles O53: a difference of words counts modulo 2^32 (D4). -/
theorem deadlineArithmetic : Obligations.DeadlineArithmetic := by
  unfold Obligations.DeadlineArithmetic
  intro s
  rw [deadlinePassed_iff, BitVec.toNat_sub, Nat.add_comm]

/-! What XLOOP selects besides XFER_WRITE (R133). -/

theorem decodeXloop_xloop_done {s : State} (hr : s.remaining = 0) : decodeXloop (xloop s) = some .done := by
  simp [hr]

theorem decodeXloop_xloop_timeout {s : State} (hr : s.remaining ≠ 0) (ht : s.txe = false)
    (hd : deadlinePassed s = true) : decodeXloop (xloop s) = some .timeout := by
  simp [hr, ht, hd]

theorem decodeXloop_xloop_wait {s : State} (hr : s.remaining ≠ 0) (ht : s.txe = false)
    (hd : deadlinePassed s = false) : decodeXloop (xloop s) = some .wait := by
  simp [hr, ht, hd]

/-! The micro-operations' answers. -/

/-- Settles O46: a present buffer and a length that is not 0 make XENT select XFER_BEGIN (R77, R132). -/
theorem transferBegins : Obligations.TransferBegins := by
  unfold Obligations.TransferBegins
  rintro s hx hb hl t rfl
  have hv := decodeXent_xent_begin_iff.2 ⟨hb, hl⟩
  have hmicro : exec .xferBegin s = .next
      { s with
        txOnly := true, startTick := s.now, cursor := 0, remaining := s.request.length, xferActive := true } := by
    simp only [exec, execXferBegin, hx, hv, Bool.false_eq_true, if_false, if_true]
  exact ⟨(execTransfer_eq hx hv).trans hmicro, hmicro⟩

/-- XFER_WRITE past the buffer's bytes hands off a free value, and counts the draw (log 15). -/
theorem exec_xferWrite_free {s : State} {bytes : List Byte} (hx : s.xferActive = true) (hr : s.remaining ≠ 0)
    (ht : s.txe = true) (hb : s.request.buffer = some bytes) (hpast : bytes.length ≤ s.cursor)
    (hlt : s.cursor < s.request.length) :
    exec .xferWrite s = .next
      { drWrite (Config.freeBufferByte s.freeCount) s with
        cursor := s.cursor + 1, remaining := s.remaining - 1, freeCount := s.freeCount + 1 } := by
  obtain ⟨hread, hholds⟩ := bufRead_of_length_le (free := Config.freeBufferByte s.freeCount) hb hlt hpast
  exact loopMicro_next.2 ⟨hx, decodeXloop_xloop_write hr ht, by simp [hread, hholds]⟩

/-- Settles O48: `BufRead` is the free value below `length`, and answers no byte outside R52's range. -/
theorem xferWritePastTheBuffer : Obligations.XferWritePastTheBuffer := by
  unfold Obligations.XferWritePastTheBuffer
  intro s hx hr ht
  refine ⟨fun bytes hb hpast hlt => ⟨_, exec_xferWrite_free hx hr ht hb hpast hlt⟩, fun hout => ?_⟩
  have hnone := bufRead_eq_none (free := Config.freeBufferByte s.freeCount).2 hout
  have hv := decodeXloop_xloop_write hr ht
  simp only [exec, execXferWrite, loopMicro, hx, hv, hnone, decide_true, Bool.and_self, if_true]

/-- Settles O49: each of the three causes leaves the deadline not passed. -/
theorem xferWaitChangesNothing : Obligations.XferWaitChangesNothing := by
  unfold Obligations.XferWaitChangesNothing
  intro s hx hr ht hcause
  have hd : deadlinePassed s = false := by
    rw [Bool.eq_false_iff, ne_eq, deadlinePassed_iff]
    rintro ⟨hzero, hinfinite, hreached⟩
    obtain h | h | h := hcause
    · exact hzero h
    · exact hinfinite h
    · omega
  exact loopMicro_next.2 ⟨hx, decodeXloop_xloop_wait hr ht hd, rfl⟩

/-- Settles O50: the mode is the free value the end of the call draws. -/
theorem xferTimeoutEndsTheCall : Obligations.XferTimeoutEndsTheCall := by
  unfold Obligations.XferTimeoutEndsTheCall
  intro s hx hr ht hzero hinfinite hreached
  have hd : deadlinePassed s = true := deadlinePassed_iff.2 ⟨hzero, hinfinite, hreached⟩
  exact ⟨_, loopMicro_next.2 ⟨hx, decodeXloop_xloop_timeout hr ht hd, rfl⟩⟩

/-- XFER_DONE, where nothing remains (R137). -/
theorem exec_xferDone {s : State} (hx : s.xferActive = true) (hr : s.remaining = 0) :
    exec .xferDone s = .next (endTransfer .ok s) :=
  loopMicro_next.2 ⟨hx, decodeXloop_xloop_done hr, rfl⟩

/-- Settles O51: the mode is the free value the end of the call draws. -/
theorem xferDoneReturnsOk : Obligations.XferDoneReturnsOk := by
  unfold Obligations.XferDoneReturnsOk
  intro s hx hr
  exact ⟨_, exec_xferDone hx hr⟩

/-- Settles O52: a call in progress is the first test of the entry (log 7). -/
theorem transferRefusals : Obligations.TransferRefusals := by
  unfold Obligations.TransferRefusals
  intro s hx
  refine ⟨?_, ?_, ?_⟩
  · simp [exec, execTransfer, hx]
  · simp [exec, execXferReject, hx]
  · simp [exec, execXferBegin, hx]

/-! A whole call, with the flag set and no input left. -/

/-- A TRANSFER of a present buffer has `n` bytes to go, and its task has every turn. -/
structure InLoop (bytes : List Byte) (n : Nat) (s : State) : Prop where
  inputs : s.inputs = []
  active : s.xferActive = true
  flag : s.txe = true
  buffer : s.request.buffer = some bytes
  remaining : s.remaining = n
  sum : s.cursor + n = s.request.length

/-- What a run of XFER's loop has done: it has handed off the bytes `sent`, those of the buffer where it has any, and
neither written a pin nor returned. -/
structure HandsOff (bytes sent : List Byte) (s t : State) : Prop where
  trace : t.drTrace = s.drTrace ++ sent
  data : ∀ i b, i < sent.length → bytes[s.cursor + i]? = some b → sent[i]? = some b
  cursor : t.cursor = s.cursor + sent.length
  results : t.results = s.results
  pins : t.pinTrace = s.pinTrace

theorem HandsOff.nil (bytes : List Byte) (s : State) : HandsOff bytes [] s s :=
  ⟨by simp, by simp, rfl, rfl, rfl⟩

theorem HandsOff.cons {bytes sent : List Byte} {b : Byte} {s t u : State} (h : HandsOff bytes [b] s t)
    (hrest : HandsOff bytes sent t u) : HandsOff bytes (b :: sent) s u where
  trace := by rw [hrest.trace, h.trace]; simp
  data := fun i b' hi hb' => by
    cases i with
    | zero => simpa using h.data 0 b' (by simp) hb'
    | succ i =>
      have hcursor : t.cursor = s.cursor + 1 := h.cursor
      exact hrest.data i b' (by simpa using hi) (by rwa [hcursor, Nat.add_right_comm])
  cursor := by rw [hrest.cursor, h.cursor]; simp [Nat.add_assoc, Nat.add_comm]
  results := hrest.results.trans h.results
  pins := hrest.pins.trans h.pins

section
variable {bytes : List Byte} {n : Nat} {s : State}

/-- One turn hands off one byte: the buffer's, or a free value past its end (R134, log 15). -/
theorem InLoop.step_write (h : InLoop bytes (n + 1) s) :
    ∃ t b, step s = .next t ∧ InLoop bytes n t ∧ HandsOff bytes [b] s t := by
  have hr : s.remaining ≠ 0 := by rw [h.remaining]; omega
  have hsum := h.sum
  have hstep : step s = exec .xferWrite s :=
    (step_no_input h.inputs).trans (runTask_transfer h.active (decodeXloop_xloop_write hr h.flag))
  have hrest : s.remaining - 1 = n := by rw [h.remaining]; omega
  have hcursor : s.cursor + 1 + n = s.request.length := by omega
  cases hbyte : bytes[s.cursor]? with
  | some b =>
    obtain ⟨hread, hholds⟩ := bufRead_of_getElem? (free := Config.freeBufferByte s.freeCount) h.buffer (by omega) hbyte
    refine ⟨_, b, hstep.trans (exec_xferWrite h.active hr h.flag hread hholds),
      ⟨h.inputs, h.active, h.flag, h.buffer, hrest, hcursor⟩, ⟨rfl, ?_, rfl, rfl, rfl⟩⟩
    intro i b' hi hb'
    obtain rfl : i = 0 := by simpa using hi
    simpa [hbyte] using hb'
  | none =>
    have hpast : bytes.length ≤ s.cursor := List.getElem?_eq_none_iff.1 hbyte
    refine ⟨_, _, hstep.trans (exec_xferWrite_free h.active hr h.flag h.buffer hpast (by omega)),
      ⟨h.inputs, h.active, h.flag, h.buffer, hrest, hcursor⟩, ⟨rfl, ?_, rfl, rfl, rfl⟩⟩
    intro i b' hi hb'
    obtain rfl : i = 0 := by simpa using hi
    simp [hbyte] at hb'

/-- `n` turns hand off the `n` bytes to go. -/
theorem InLoop.iterate_step (h : InLoop bytes n s) :
    ∃ t sent, iterate step n s = .next t ∧ sent.length = n ∧ InLoop bytes 0 t ∧ HandsOff bytes sent s t := by
  induction n generalizing s with
  | zero => exact ⟨s, [], rfl, rfl, h, .nil bytes s⟩
  | succ n ih =>
    obtain ⟨u, b, hstep, hu, hfirst⟩ := h.step_write
    obtain ⟨t, sent, hrun, hlen, ht, hrest⟩ := ih hu
    exact ⟨t, b :: sent, by simp only [iterate, hstep, hrun], by simp [hlen], ht, hfirst.cons hrest⟩

/-- The turn with nothing to go returns Ok (R137). -/
theorem InLoop.step_done (h : InLoop bytes 0 s) : step s = .next (endTransfer .ok s) :=
  ((step_no_input h.inputs).trans (runTask_transfer h.active (decodeXloop_xloop_done h.remaining))).trans
    (exec_xferDone h.active h.remaining)

end

/-- A list that has another one's elements, as far as both go, begins as it does. -/
theorem take_eq_take_of_agrees {α : Type} {xs ys : List α}
    (h : ∀ i x, i < ys.length → xs[i]? = some x → ys[i]? = some x) : ys.take xs.length = xs.take ys.length := by
  refine List.ext_getElem? fun i => ?_
  rw [List.getElem?_take, List.getElem?_take]
  by_cases hx : i < xs.length <;> by_cases hy : i < ys.length
  · rw [if_pos hx, if_pos hy, List.getElem?_eq_getElem hx]
    exact h i _ hy (List.getElem?_eq_getElem hx)
  · simp [hx, hy]
  · simp [hx, hy]
  · simp [hx, hy]

/-- TRANSFER's command, with nothing after it and the flag set, enters the loop with the whole length to go (R132). -/
theorem step_enters_loop {s : State} {c : Command} {bytes : List Byte} (hi : s.inputs = [.command c])
    (hword : c.word = 0x40000000#32) (hb : c.request.buffer = some bytes) (hl : c.request.length ≠ 0)
    (hx : s.xferActive = false) (ht : s.txe = true) :
    ∃ t, step s = .next t ∧ InLoop bytes c.request.length t ∧ t.cursor = 0 ∧ t.drTrace = s.drTrace ∧
      t.results = s.results ∧ t.pinTrace = s.pinTrace := by
  have hdecode : decodeCmd c.word = .ok .transfer := by rw [hword]; rfl
  obtain ⟨hbegin, -⟩ := transferBegins (stage .transfer c { s with inputs := [] }) hx (by simp [stage, hb]) hl _ rfl
  exact ⟨_, (step_command hi hdecode (by simp [hx])).trans hbegin, ⟨rfl, rfl, ht, hb, rfl, Nat.zero_add _⟩,
    rfl, rfl, rfl, rfl⟩

/-- Settles O55: one step enters the loop, each further one hands off a byte, the last one returns. -/
theorem transferHandsOffTheBuffer : Obligations.TransferHandsOffTheBuffer := by
  unfold Obligations.TransferHandsOffTheBuffer
  intro s c bytes hi hword hb hl hx ht
  obtain ⟨a, hbegin, hinLoop, hcursor, hdr, hresults, hpins⟩ := step_enters_loop hi hword hb hl hx ht
  obtain ⟨t, sent, hloop, hlen, hend, hsent⟩ := hinLoop.iterate_step
  have hrun : iterate step (c.request.length + 1) s = .next t := by simp only [iterate, hbegin, hloop]
  have hfirst : sent.take bytes.length = bytes.take c.request.length := by
    rw [← hlen]
    exact take_eq_take_of_agrees fun i b hi' hb' => hsent.data i b hi' (by rwa [hcursor, Nat.zero_add])
  refine ⟨endTransfer .ok t, sent, iterate_succ_of_next hrun hend.step_done, ?_, hlen, hfirst, fun hall => ?_, ?_, rfl,
    hsent.pins.trans hpins⟩
  · rw [endTransfer_drTrace, hsent.trace, hdr]
  · rwa [hall, List.take_length, ← hall, ← hlen, List.take_length] at hfirst
  · rw [endTransfer_results, hsent.results, hresults]

end Sys2Proof.Machine
end

section
/-! PROOF. The whole machine (10_state.md, R41, R44; 70_reset_and_hazards.md, R180): what no step changes, and that a
task's turn never stops it. -/

namespace Sys2Proof.Machine

open Sys2Proof

/-! A task's turn in a state that meets the invariant. -/

/-- The turn of a TRANSFER in progress is taken: while bytes remain the read is below `length`, with a buffer present
(R37, R52). -/
theorem Inv.runTask_transfer_next {s : State} (hinv : Inv s) (hx : s.xferActive = true) :
    ∃ t, runTask s = .next t := by
  obtain ⟨op, hv⟩ : ∃ op, decodeXloop (xloop s) = some op := ⟨_, decodeXloop_xloop s⟩
  rw [runTask_transfer hx hv]
  cases op with
  | done => exact ⟨_, loopMicro_next.2 ⟨hx, hv, rfl⟩⟩
  | wait => exact ⟨_, loopMicro_next.2 ⟨hx, hv, rfl⟩⟩
  | timeout => exact ⟨_, loopMicro_next.2 ⟨hx, hv, rfl⟩⟩
  | write =>
    obtain ⟨hbuffer, -⟩ := hinv.transfer hx
    have hlt := hinv.cursor_lt_length hx (remaining_ne_zero_of_write hv)
    cases hread : bufRead s.request (Config.freeBufferByte s.freeCount) s.cursor with
    | none =>
      obtain hnone | hout := bufRead_eq_none.1 hread
      · simp [hnone] at hbuffer
      · omega
    | some b => exact ⟨_, loopMicro_next.2 ⟨hx, hv, by rw [hread]⟩⟩

/-- The turn of a waiting SUBMIT is taken: a call in progress has a handle (R170), and SUBV a row for each flag. -/
theorem Inv.runTask_submit_next {s : State} (hinv : Inv s) (hx : s.xferActive = false) {unit : UnitWord}
    (hu : s.submitUnit = some unit) : ∃ t, runTask s = .next t := by
  have hc : s.configured = true := by
    by_contra hc
    obtain ⟨-, -, -, hnone⟩ := hinv.unconfigured (by simpa using hc)
    simp [hu] at hnone
  obtain ⟨op, hv⟩ : ∃ op, decodeSubv (subv s) = some op := ⟨_, decodeSubv_subv s⟩
  rw [runTask_submit hx (by simp [hu]) hv]
  cases op with
  | wait => exact ⟨_, subMicro_next.2 ⟨hc, hv, unit, hu, rfl⟩⟩
  | load => exact ⟨_, subMicro_next.2 ⟨hc, hv, unit, hu, rfl⟩⟩

/-- A task's turn falls to a TRANSFER, to a waiting SUBMIT or to no task, and is taken. -/
theorem Inv.runTask_next {s : State} (hinv : Inv s) : ∃ t, runTask s = .next t := by
  cases hx : s.xferActive with
  | true => exact hinv.runTask_transfer_next hx
  | false =>
    cases hu : s.submitUnit with
    | none => exact ⟨s, runTask_nobody hx hu⟩
    | some unit => exact hinv.runTask_submit_next hx hu

/-- Settles O58: the invariant says nothing of the inputs, so it holds where the turn is taken. -/
theorem safeTaskTurnNeverStops : Obligations.SafeTaskTurnNeverStops := by
  unfold Obligations.SafeTaskTurnNeverStops
  intro s rest hinv hi
  have hrest : Inv { s with inputs := rest } := { hinv with }
  rw [step_taskTurn hi]
  exact hrest.runTask_next

/-! What every step keeps. -/

/-- From `s` to `t` the parameters stand and nothing of the observations is lost (R41, R44). -/
structure Extends (s t : State) : Prop where
  params : t.params = s.params
  pinTrace : s.pinTrace <+: t.pinTrace
  drTrace : s.drTrace <+: t.drTrace
  results : s.results <+: t.results

theorem Extends.refl (s : State) : Extends s s :=
  ⟨rfl, List.prefix_rfl, List.prefix_rfl, List.prefix_rfl⟩

/-- CONFIGURE appends its pin writes and its result (R92, R93). -/
theorem Extends.of_configure {cfg : Cfg} {s t : State} (h : exec (.configure cfg) s = .next t) : Extends s t := by
  obtain rfl | rfl := exec_configure_cases h
  · exact { Extends.refl s with results := List.prefix_append _ _ }
  · rw [configureEngine_eq rfl]
    exact { Extends.refl s with
      pinTrace := by simp [List.append_assoc]
      results := List.prefix_append _ _ }

/-- SEQ appends its pin writes, and writes no other observation (R110). -/
theorem Extends.of_seqOp {op : SeqOp} {s t : State} (h : exec op.toInstr s = .next t) : Extends s t := by
  have hpins : s.pinTrace <+: t.pinTrace := by
    cases op <;> obtain ⟨-, -, rfl⟩ := seqMicro_next.1 h <;> simp [List.append_assoc]
  rw [seqOp_frame h]
  exact { Extends.refl s with pinTrace := hpins }

/-- SUB writes no observation. -/
theorem Extends.of_subOp {op : SubOp} {call : Option UnitWord} {s t : State}
    (h : exec op.toInstr { s with submitUnit := call } = .next t) : Extends s t := by
  rw [subOp_frame h]
  exact { Extends.refl s with }

/-- XFER's entry appends at most its result (R131). -/
theorem Extends.of_entryOp {op : EntryOp} {s t : State} (h : exec op.toInstr s = .next t) : Extends s t := by
  cases op with
  | reject =>
    simp only [EntryOp.toInstr, exec, execXferReject] at h
    split_ifs at h
    cases h
    exact { Extends.refl s with results := List.prefix_append _ _ }
  | begin =>
    simp only [EntryOp.toInstr, exec, execXferBegin] at h
    split_ifs at h
    cases h
    exact { Extends.refl s with }

/-- XFER's loop appends a byte or a result (R134, R136, R137). -/
theorem Extends.of_loopOp {op : LoopOp} {s t : State} (h : exec op.toInstr s = .next t) : Extends s t := by
  cases op <;> obtain ⟨-, -, ha⟩ := loopMicro_next.1 h
  case done => cases ha; exact { Extends.refl s with results := List.prefix_append _ _ }
  case timeout => cases ha; exact { Extends.refl s with results := List.prefix_append _ _ }
  case wait => cases ha; exact Extends.refl s
  case write =>
    split at ha <;> cases ha
    exact { Extends.refl s with drTrace := List.prefix_append _ _ }

/-- No instruction changes the parameters or takes an observation back. -/
theorem Extends.of_exec {i : Instr} {s t : State} (h : exec i s = .next t) : Extends s t := by
  obtain ⟨cfg, rfl⟩ | ⟨op, hop⟩ | ⟨call, op, hop⟩ | ⟨op, hop⟩ | ⟨op, hop⟩ := exec_cases h
  · exact .of_configure h
  · exact .of_seqOp hop
  · exact .of_subOp hop
  · exact .of_entryOp hop
  · exact .of_loopOp hop

/-- Nor does a command's hand-over. -/
theorem Extends.of_exec_stage {i : Instr} {c : Command} {s t : State} (h : exec i (stage i c s) = .next t) :
    Extends s t := by
  have hexec := Extends.of_exec h
  cases i <;> exact { hexec with }

/-- Nor does any step. -/
theorem Extends.of_step {s t : State} (h : step s = .next t) : Extends s t := by
  obtain ⟨rest, flag, rfl⟩ | ⟨rest, tick, rfl⟩ | ⟨rest, h⟩ | ⟨rest, c, i, -, -, h⟩ := step_cases h
  · exact { Extends.refl s with }
  · exact { Extends.refl s with }
  · obtain ⟨-, op, hop⟩ | ⟨-, op, hop⟩ | rfl := runTask_cases h
    · exact { Extends.of_exec hop with }
    · exact { Extends.of_exec hop with }
    · exact { Extends.refl s with }
  · exact { Extends.of_exec_stage h with }

/-- Settles O59: the first field of `Extends`. -/
theorem parametersNeverChange : Obligations.ParametersNeverChange := by
  unfold Obligations.ParametersNeverChange
  intro s t h
  exact (Extends.of_step h).params

/-- Settles O60: the other fields of `Extends`. -/
theorem tracesOnlyGrow : Obligations.TracesOnlyGrow := by
  unfold Obligations.TracesOnlyGrow
  intro s t h
  obtain ⟨-, hpins, hdr, hresults⟩ := Extends.of_step h
  exact ⟨hpins, hdr, hresults⟩

end Sys2Proof.Machine
end
